-- ==== Sys2Proof/Word.lean ====
section
/-! DEFINITION. The word types of the machine: 32-bit data and addresses (00_scope.md R4, `XLEN`, `ADDR_BITS`),
16-bit instruction words and half-words (`ILEN`), bytes, and the 5-bit register number of an `A` or `B` field (R20). -/

namespace Sys2Proof

/-- A general register, an address, the data of one full-word memory access: 32 bits (R4). -/
abbrev Word := BitVec 32

/-- An instruction word or a half-word lane: 16 bits (R6, R90). -/
abbrev HalfWord := BitVec 16

/-- A byte lane or one cell of memory: 8 bits (R6, R60). -/
abbrev Byte := BitVec 8

/-- The number of a visible register, `%r0` to `%r31` (R20). -/
abbrev RegNum := BitVec 5

end Sys2Proof
end

