-- ==== Sys2Proof/Config.lean ====
section
/-! DEFINITION. What an implementation fixes (00_scope.md R4): the values the model names for the parameters at reset, and
the two uninterpreted parts of a platform, the user operations and what a device answers. The parameters that a machine
carries unchanged (VECBASE, ADDR_BITS, statusLayout, ctlMap, ccTable, platformMem, which custom instructions exist,
FETCH_AHEAD) are data of the state (`Machine.Platform`), so that a statement about every state holds for every choice. -/

namespace Sys2Proof

/-- One bus access to a device (20_memory.md R68): its byte address, its width in bytes, the bytes stored or none for a
read, and how many instructions had been executed or cancelled when it was made. The model's own: log 12. -/
structure BusAccess where
  now : Nat
  addr : Nat
  size : Nat
  stored : Option (List Byte)
deriving DecidableEq, Repr

end Sys2Proof

namespace Sys2Proof.Config

/-- `usrOp[i]` of R155: what custom instruction USR<i> computes from its two operands. Open (decision D27): an
uninterpreted function, of which nothing can be proved. -/
opaque usrOp (i : Fin 5) (a b : Word) : Word

/-- What a device answers for the byte at `a`, given every device access up to and including this read, the latest first
(R69, U16): the side effects of earlier accesses are whatever this function makes of them. Open (decision D24): an
uninterpreted function, of which nothing can be proved (log 12). -/
opaque deviceByte (history : List BusAccess) (a : Nat) : Byte

/-- REGFILE at reset: the smallest file, 128 registers (R4, R22). -/
def resetRegFile : Nat := 128

/-- RESET_ADDR (R50, open). DESIGN CHOICE, log 1: the value the spec's own example programs use. -/
def resetAddr : Word := 0x00000100#32

/-- VECBASE of the machine after reset (R70, open). DESIGN CHOICE, log 11: the value the spec's own vectors use. -/
def resetVecBase : Word := 0x00002000#32

/-- What a byte of memory that nothing lists reads as (R50: unspecified). DESIGN CHOICE, log 13. -/
def unlistedByte : Byte := 0#8

/-- ADDR_BITS at reset (R4, decision D3). -/
def resetAddrBits : Nat := 32

/-- The number of byte addresses a 32-bit address can name (R60). -/
def addressSpace : Nat := 4294967296

end Sys2Proof.Config
end

