-- ==== Sys2Proof/Syntax.lean ====
section
/-! DEFINITION. The instructions: one constructor for each of the 81 rows of spec/opcode_table.json (30_encoding.md
R101 and R103), its operands the fields of the row's format (R92), each a bit vector of the field's own width. -/

namespace Sys2Proof

/-- One row of the opcode map each. `a` and `b` are the 5-bit register fields, `p` selects a pointer register, `immN…`
are the immediates under the names of R91. The last twelve are the rows that are no instruction (R103): `x` holds
the bits such a word leaves open. -/
inductive Instr where
  /-- ADD, R171: RA ← RA + RB. -/
  | add (a b : RegNum)
  /-- ADDI, R172: RA ← RA + zext(K : IMM5). -/
  | addi (a : RegNum) (imm5 : BitVec 5)
  /-- SUB, R173: RA ← RA - RB. -/
  | sub (a b : RegNum)
  /-- SUBI, R174: RA ← RA - zext(K : IMM5). -/
  | subi (a : RegNum) (imm5 : BitVec 5)
  /-- CMP, R175: flags of RA - RB. -/
  | cmp (a b : RegNum)
  /-- CMPI, R176: flags of RA - zext(K : IMM5). -/
  | cmpi (a : RegNum) (imm5 : BitVec 5)
  /-- LSL, R191: RA shifted left by RB[4..0]. -/
  | lsl (a b : RegNum)
  /-- LSLI, R192: RA shifted left by IMM5. -/
  | lsli (a : RegNum) (imm5 : BitVec 5)
  /-- LSR, R193: RA shifted right by RB[4..0], zero fill. -/
  | lsr (a b : RegNum)
  /-- LSRI, R194: RA shifted right by IMM5, zero fill. -/
  | lsri (a : RegNum) (imm5 : BitVec 5)
  /-- ASR, R195: RA shifted right by RB[4..0], sign fill. -/
  | asr (a b : RegNum)
  /-- ASRI, R196: RA shifted right by IMM5, sign fill. -/
  | asri (a : RegNum) (imm5 : BitVec 5)
  /-- MOV, R163: RA ← RB. -/
  | mov (a b : RegNum)
  /-- MOVI, R164: RA ← zext(K : IMM5). -/
  | movi (a : RegNum) (imm5 : BitVec 5)
  /-- AND, R186: RA ← RA & op2; the `b` field is a register, or IMM5 after PFX. -/
  | and (a : RegNum) (b : BitVec 5)
  /-- ANDN, R187: RA ← RA & ~op2; operand forms as AND. -/
  | andn (a : RegNum) (b : BitVec 5)
  /-- OR, R188: RA ← RA | op2; operand forms as AND. -/
  | or (a : RegNum) (b : BitVec 5)
  /-- XOR, R189: RA ← RA ^ op2; operand forms as AND. -/
  | xor (a : RegNum) (b : BitVec 5)
  /-- BGEN, R166: RA ← 2^IMM5. -/
  | bgen (a : RegNum) (imm5 : BitVec 5)
  /-- EXT8D, R203: byte RB[1..0] of RA. -/
  | ext8d (a b : RegNum)
  /-- SKP0, R146: skip when bit IMM5 of RA is 0. -/
  | skp0 (a : RegNum) (imm5 : BitVec 5)
  /-- SKP1, R147: skip when bit IMM5 of RA is 1. -/
  | skp1 (a : RegNum) (imm5 : BitVec 5)
  /-- LD, R216: RA ← word at RB + K*4. -/
  | ld (a b : RegNum)
  /-- ST, R217: word at RB + K*4 ← RA. -/
  | st (a b : RegNum)
  /-- STS8S, R227: byte of %r0 to %sp + IMM10. -/
  | sts8s (imm10 : BitVec 10)
  /-- STS16S, R228: half-word of %r0 to %sp + IMM9*2. -/
  | sts16s (imm9 : BitVec 9)
  /-- EXT16D, R205: half-word RB[1] of RA. -/
  | ext16d (a b : RegNum)
  /-- MOVHI, R165: high half-word of RA ← K : IMM5. -/
  | movhi (a : RegNum) (imm5 : BitVec 5)
  /-- USR0, R156: RA ← usrOp[0](RA, RB). -/
  | usr0 (a b : RegNum)
  /-- EXT8S, R204: byte IMM2u of RA. -/
  | ext8s (a : RegNum) (imm2u : BitVec 2)
  /-- EXT16S, R206: half-word IMM1u of RA. -/
  | ext16s (a : RegNum) (imm1u : BitVec 1)
  /-- ST8S, R224: byte IMM2u of %r0 to the word at RA + K*4. -/
  | st8s (a : RegNum) (imm2u : BitVec 2)
  /-- ST16S, R226: half-word IMM1u of %r0 to the word at RA + K*4. -/
  | st16s (a : RegNum) (imm1u : BitVec 1)
  /-- SAVE, R236: open a window, %sp ← %fp - IMM8v*4. -/
  | save (imm8v : BitVec 8)
  /-- TRAP, R140: software exception IMM6v. -/
  | trap (imm6v : BitVec 6)
  /-- NOT, R190: RA ← ~RA. -/
  | not (a : RegNum)
  /-- NEG, R177: RA ← -RA. -/
  | neg (a : RegNum)
  /-- ABS, R178: RA ← |RA|. -/
  | abs (a : RegNum)
  /-- SEXT8, R207: RA ← sign-extended byte 0. -/
  | sext8 (a : RegNum)
  /-- SEXT16, R208: RA ← sign-extended half-word 0. -/
  | sext16 (a : RegNum)
  /-- RLC, R197: rotate RA left through C. -/
  | rlc (a : RegNum)
  /-- RRC, R198: rotate RA right through C. -/
  | rrc (a : RegNum)
  /-- SWAP, R209: exchange the half-words of RA. -/
  | swap (a : RegNum)
  /-- USR1, R157: RA ← usrOp[1](RA, %r0). -/
  | usr1 (a : RegNum)
  /-- USR2, R158: RA ← usrOp[2](RA, %r0). -/
  | usr2 (a : RegNum)
  /-- USR3, R159: RA ← usrOp[3](RA, %r0). -/
  | usr3 (a : RegNum)
  /-- USR4, R160: RA ← usrOp[4](RA, %r0). -/
  | usr4 (a : RegNum)
  /-- RESTORE, R238: return to the previous window. -/
  | restore
  /-- TRET, R141: return from exception to RA*2. -/
  | tret (a : RegNum)
  /-- ST8D, R223: byte RA[1..0] of %r0 to RA + K*4. -/
  | st8d (a : RegNum)
  /-- ST16D, R225: half-word RA[1] of %r0 to RA + K*4. -/
  | st16d (a : RegNum)
  /-- FILL8, R210: %r0 ← byte 0 of RA in every lane. -/
  | fill8 (a : RegNum)
  /-- FILL16, R211: %r0 ← half-word 0 of RA in both lanes. -/
  | fill16 (a : RegNum)
  /-- MSTEP, R179: one multiply step on %r0 with RA. -/
  | mstep (a : RegNum)
  /-- MUL, R180: %r0 ← low half of %r0 times low half of RA. -/
  | mul (a : RegNum)
  /-- SKPRZ, R148: skip when RA is zero. -/
  | skprz (a : RegNum)
  /-- SKPS, R149: skip when condition IMM4w holds. -/
  | skps (imm4w : BitVec 4)
  /-- WRCTL, R240: control register K ← RA. -/
  | wrctl (a : RegNum)
  /-- RDCTL, R239: RA ← control register K. -/
  | rdctl (a : RegNum)
  /-- SKPRNZ, R151: skip when RA is not zero. -/
  | skprnz (a : RegNum)
  /-- JMP, R133: to RA*2, delayed. -/
  | jmp (a : RegNum)
  /-- CALL, R134: to RA*2, delayed, link in %o7. -/
  | call (a : RegNum)
  /-- BR, R131: to pc + (IMM11 + 1)*2, delayed. -/
  | br (imm11 : BitVec 11)
  /-- BSR, R132: as BR, link in %o7. -/
  | bsr (imm11 : BitVec 11)
  /-- PFX, R162: K ← IMM11 for the next instruction. -/
  | pfx (imm11 : BitVec 11)
  /-- STP, R219: word at RP + (K : IMM5)*4 ← RA. -/
  | stp (a : RegNum) (p : BitVec 2) (imm5 : BitVec 5)
  /-- LDP, R218: RA ← word at RP + (K : IMM5)*4. -/
  | ldp (a : RegNum) (p : BitVec 2) (imm5 : BitVec 5)
  /-- STS, R221: word at %sp + IMM8*4 ← RA. -/
  | sts (a : RegNum) (imm8 : BitVec 8)
  /-- LDS, R220: RA ← word at %sp + IMM8*4. -/
  | lds (a : RegNum) (imm8 : BitVec 8)
  /-- No instruction: words 011101010xxxxxxx (R103). -/
  | unused011101010 (x : BitVec 7)
  /-- No instruction: words 011101011xxxxxxx (R103). -/
  | unused011101011 (x : BitVec 7)
  /-- No instruction: words 011101110xxxxxxx (R103). -/
  | unlisted011101110 (x : BitVec 7)
  /-- No instruction: words 011101111xxxxxxx (R103). -/
  | unlisted011101111 (x : BitVec 7)
  /-- No instruction: words 01111010xxxxxxxx (R103). -/
  | unlisted01111010 (x : BitVec 8)
  /-- No instruction: words 01111011xxxxxxxx (R103). -/
  | unlisted01111011 (x : BitVec 8)
  /-- No instruction: words 01111100111xxxxx (R103). -/
  | unused01111100111 (x : BitVec 5)
  /-- No instruction: words 01111101111xxxxx (R103). -/
  | unused01111101111 (x : BitVec 5)
  /-- No instruction: words 01111111011xxxxx (R103). -/
  | unused01111111011 (x : BitVec 5)
  /-- No instruction: words 01111111100xxxxx (R103). -/
  | unused01111111100 (x : BitVec 5)
  /-- No instruction: words 01111111101xxxxx (R103). -/
  | unused01111111101 (x : BitVec 5)
  /-- No instruction: words 10010xxxxxxxxxxx (R103). -/
  | unlisted10010 (x : BitVec 11)
deriving DecidableEq, Repr

end Sys2Proof
end

