-- ==== Sys2Proof/WellFormed.lean ====
section
/-! DEFINITION. Which terms of `Instr` are instructions with a meaning of their own. Every field has exactly the width
of its place in the word (R92), so no range check is left; two things a term can still get wrong are a row that is no
instruction (R103) and an SKPS condition number that names no condition (R149, R150). -/

namespace Sys2Proof

/-- The opcode is one of the 69 of the opcode map (R101), not one of the 12 unused or unlisted rows (R103). -/
def Instr.isListed : Instr → Bool
  | .add _ _ | .addi _ _ | .sub _ _ | .subi _ _ | .cmp _ _ | .cmpi _ _
  | .lsl _ _ | .lsli _ _ | .lsr _ _ | .lsri _ _ | .asr _ _ | .asri _ _
  | .mov _ _ | .movi _ _ | .and _ _ | .andn _ _ | .or _ _ | .xor _ _
  | .bgen _ _ | .ext8d _ _ | .skp0 _ _ | .skp1 _ _ | .ld _ _ | .st _ _
  | .sts8s _ | .sts16s _ | .ext16d _ _ | .movhi _ _ | .usr0 _ _ | .ext8s _ _
  | .ext16s _ _ | .st8s _ _ | .st16s _ _ | .save _ | .trap _ | .not _
  | .neg _ | .abs _ | .sext8 _ | .sext16 _ | .rlc _ | .rrc _
  | .swap _ | .usr1 _ | .usr2 _ | .usr3 _ | .usr4 _ | .restore
  | .tret _ | .st8d _ | .st16d _ | .fill8 _ | .fill16 _ | .mstep _
  | .mul _ | .skprz _ | .skps _ | .wrctl _ | .rdctl _ | .skprnz _
  | .jmp _ | .call _ | .br _ | .bsr _ | .pfx _ | .stp _ _ _
  | .ldp _ _ _ | .sts _ _ | .lds _ _ => true
  | .unused011101010 _ | .unused011101011 _ | .unlisted011101110 _ | .unlisted011101111 _
  | .unlisted01111010 _ | .unlisted01111011 _ | .unused01111100111 _ | .unused01111101111 _
  | .unused01111111011 _ | .unused01111111100 _ | .unused01111111101 _ | .unlisted10010 _ => false

/-- SKPS condition numbers 14 and 15 name no condition in the table of R150, the default of `ccTable` (R149; log 10). -/
def Instr.hasCondition : Instr → Bool
  | .skps imm4w => decide (imm4w.toNat < 14)
  | .add _ _ | .addi _ _ | .sub _ _ | .subi _ _ | .cmp _ _ | .cmpi _ _
  | .lsl _ _ | .lsli _ _ | .lsr _ _ | .lsri _ _ | .asr _ _ | .asri _ _
  | .mov _ _ | .movi _ _ | .and _ _ | .andn _ _ | .or _ _ | .xor _ _
  | .bgen _ _ | .ext8d _ _ | .skp0 _ _ | .skp1 _ _ | .ld _ _ | .st _ _
  | .sts8s _ | .sts16s _ | .ext16d _ _ | .movhi _ _ | .usr0 _ _ | .ext8s _ _
  | .ext16s _ _ | .st8s _ _ | .st16s _ _ | .save _ | .trap _ | .not _
  | .neg _ | .abs _ | .sext8 _ | .sext16 _ | .rlc _ | .rrc _
  | .swap _ | .usr1 _ | .usr2 _ | .usr3 _ | .usr4 _ | .restore
  | .tret _ | .st8d _ | .st16d _ | .fill8 _ | .fill16 _ | .mstep _
  | .mul _ | .skprz _ | .wrctl _ | .rdctl _ | .skprnz _ | .jmp _
  | .call _ | .br _ | .bsr _ | .pfx _ | .stp _ _ _ | .ldp _ _ _
  | .sts _ _ | .lds _ _ | .unused011101010 _ | .unused011101011 _ | .unlisted011101110 _ | .unlisted011101111 _
  | .unlisted01111010 _ | .unlisted01111011 _ | .unused01111100111 _ | .unused01111101111 _ | .unused01111111011 _ | .unused01111111100 _
  | .unused01111111101 _ | .unlisted10010 _ => true

/-- A well-formed instruction: a listed opcode, and where it is SKPS, a condition that exists. -/
def Instr.wellFormed (i : Instr) : Bool := i.isListed && i.hasCondition

end Sys2Proof
end

