-- ==== Sys2Proof/Decode.lean ====
section
/-! DEFINITION. The decoder, written from the prefix code of 30_encoding.md R100 and the formats of R92, total on every
word and on every list of bytes, rejecting by name; and after it the encoder, written from the same formats, and the
opcode map of R101 and R103 as a table of match and mask. -/

namespace Sys2Proof

/-- Why bytes are no instruction. -/
inductive Reject where
  /-- Fewer bytes than one 16-bit instruction word (R90). Safe. -/
  | truncated
  /-- A must-be-zero bit of the format is one: the word matches no row (R95, treated as R103). Safe. -/
  | mustBeZero
deriving DecidableEq, Repr

/-- `w[hi:lo]`, with the field's width (R5). -/
abbrev field (w : HalfWord) (lo width : Nat) : BitVec width := w.extractLsb' lo width

/-- The rows under `op6 = 011101`, selected by `op3u` (R100). Bit 5 of format Ri1u must be zero (R95). -/
def decodeOp3u (w : HalfWord) : Except Reject Instr :=
  match field w 7 3 with
  | 0b000#3 => .ok (.ext8s (field w 0 5) (field w 5 2))
  | 0b001#3 => if field w 5 1 = 0#1 then .ok (.ext16s (field w 0 5) (field w 6 1)) else .error .mustBeZero
  | 0b010#3 => .ok (.unused011101010 (field w 0 7))
  | 0b011#3 => .ok (.unused011101011 (field w 0 7))
  | 0b100#3 => .ok (.st8s (field w 0 5) (field w 5 2))
  | 0b101#3 => if field w 5 1 = 0#1 then .ok (.st16s (field w 0 5) (field w 6 1)) else .error .mustBeZero
  | 0b110#3 => .ok (.unlisted011101110 (field w 0 7))
  | _ => .ok (.unlisted011101111 (field w 0 7))

/-- The rows under `op6 = 011110`, selected by `op2v` (R100). Bits 7..6 of format i6v must be zero (R95). -/
def decodeOp2v (w : HalfWord) : Except Reject Instr :=
  match field w 8 2 with
  | 0b00#2 => .ok (.save (field w 0 8))
  | 0b01#2 => if field w 6 2 = 0#2 then .ok (.trap (field w 0 6)) else .error .mustBeZero
  | 0b10#2 => .ok (.unlisted01111010 (field w 0 8))
  | _ => .ok (.unlisted01111011 (field w 0 8))

/-- The 32 rows under `op6 = 011111`, selected by `op5w` (R100). Bits 4..0 of format w and bit 4 of format i4w must
be zero (R95). -/
def decodeOp5w (w : HalfWord) : Except Reject Instr :=
  match field w 5 5 with
  | 0b00000#5 => .ok (.not (field w 0 5))
  | 0b00001#5 => .ok (.neg (field w 0 5))
  | 0b00010#5 => .ok (.abs (field w 0 5))
  | 0b00011#5 => .ok (.sext8 (field w 0 5))
  | 0b00100#5 => .ok (.sext16 (field w 0 5))
  | 0b00101#5 => .ok (.rlc (field w 0 5))
  | 0b00110#5 => .ok (.rrc (field w 0 5))
  | 0b00111#5 => .ok (.unused01111100111 (field w 0 5))
  | 0b01000#5 => .ok (.swap (field w 0 5))
  | 0b01001#5 => .ok (.usr1 (field w 0 5))
  | 0b01010#5 => .ok (.usr2 (field w 0 5))
  | 0b01011#5 => .ok (.usr3 (field w 0 5))
  | 0b01100#5 => .ok (.usr4 (field w 0 5))
  | 0b01101#5 => if field w 0 5 = 0#5 then .ok .restore else .error .mustBeZero
  | 0b01110#5 => .ok (.tret (field w 0 5))
  | 0b01111#5 => .ok (.unused01111101111 (field w 0 5))
  | 0b10000#5 => .ok (.st8d (field w 0 5))
  | 0b10001#5 => .ok (.st16d (field w 0 5))
  | 0b10010#5 => .ok (.fill8 (field w 0 5))
  | 0b10011#5 => .ok (.fill16 (field w 0 5))
  | 0b10100#5 => .ok (.mstep (field w 0 5))
  | 0b10101#5 => .ok (.mul (field w 0 5))
  | 0b10110#5 => .ok (.skprz (field w 0 5))
  | 0b10111#5 => if field w 4 1 = 0#1 then .ok (.skps (field w 0 4)) else .error .mustBeZero
  | 0b11000#5 => .ok (.wrctl (field w 0 5))
  | 0b11001#5 => .ok (.rdctl (field w 0 5))
  | 0b11010#5 => .ok (.skprnz (field w 0 5))
  | 0b11011#5 => .ok (.unused01111111011 (field w 0 5))
  | 0b11100#5 => .ok (.unused01111111100 (field w 0 5))
  | 0b11101#5 => .ok (.unused01111111101 (field w 0 5))
  | 0b11110#5 => .ok (.jmp (field w 0 5))
  | _ => .ok (.call (field w 0 5))

/-- The words with bit 15 clear, selected by the 6-bit primary opcode, of which the first bit is that 0 (R100). Bit 0
of format i9 must be zero (R95). -/
def decodeOp6 (w : HalfWord) : Except Reject Instr :=
  match field w 10 5 with
  | 0b00000#5 => .ok (.add (field w 0 5) (field w 5 5))
  | 0b00001#5 => .ok (.addi (field w 0 5) (field w 5 5))
  | 0b00010#5 => .ok (.sub (field w 0 5) (field w 5 5))
  | 0b00011#5 => .ok (.subi (field w 0 5) (field w 5 5))
  | 0b00100#5 => .ok (.cmp (field w 0 5) (field w 5 5))
  | 0b00101#5 => .ok (.cmpi (field w 0 5) (field w 5 5))
  | 0b00110#5 => .ok (.lsl (field w 0 5) (field w 5 5))
  | 0b00111#5 => .ok (.lsli (field w 0 5) (field w 5 5))
  | 0b01000#5 => .ok (.lsr (field w 0 5) (field w 5 5))
  | 0b01001#5 => .ok (.lsri (field w 0 5) (field w 5 5))
  | 0b01010#5 => .ok (.asr (field w 0 5) (field w 5 5))
  | 0b01011#5 => .ok (.asri (field w 0 5) (field w 5 5))
  | 0b01100#5 => .ok (.mov (field w 0 5) (field w 5 5))
  | 0b01101#5 => .ok (.movi (field w 0 5) (field w 5 5))
  | 0b01110#5 => .ok (.and (field w 0 5) (field w 5 5))
  | 0b01111#5 => .ok (.andn (field w 0 5) (field w 5 5))
  | 0b10000#5 => .ok (.or (field w 0 5) (field w 5 5))
  | 0b10001#5 => .ok (.xor (field w 0 5) (field w 5 5))
  | 0b10010#5 => .ok (.bgen (field w 0 5) (field w 5 5))
  | 0b10011#5 => .ok (.ext8d (field w 0 5) (field w 5 5))
  | 0b10100#5 => .ok (.skp0 (field w 0 5) (field w 5 5))
  | 0b10101#5 => .ok (.skp1 (field w 0 5) (field w 5 5))
  | 0b10110#5 => .ok (.ld (field w 0 5) (field w 5 5))
  | 0b10111#5 => .ok (.st (field w 0 5) (field w 5 5))
  | 0b11000#5 => .ok (.sts8s (field w 0 10))
  | 0b11001#5 => if field w 0 1 = 0#1 then .ok (.sts16s (field w 1 9)) else .error .mustBeZero
  | 0b11010#5 => .ok (.ext16d (field w 0 5) (field w 5 5))
  | 0b11011#5 => .ok (.movhi (field w 0 5) (field w 5 5))
  | 0b11100#5 => .ok (.usr0 (field w 0 5) (field w 5 5))
  | 0b11101#5 => decodeOp3u w
  | 0b11110#5 => decodeOp2v w
  | _ => decodeOp5w w

/-- The rows with a 5-bit primary opcode, bits 15..13 being 100 (R100, R102 (c)). -/
def decodeOp5 (w : HalfWord) : Except Reject Instr :=
  match field w 11 2 with
  | 0b00#2 => .ok (.br (field w 0 11))
  | 0b01#2 => .ok (.bsr (field w 0 11))
  | 0b10#2 => .ok (.unlisted10010 (field w 0 11))
  | _ => .ok (.pfx (field w 0 11))

/-- The rows with a 4-bit primary opcode, bits 15..13 being 101 (R100). -/
def decodeOp4 (w : HalfWord) : Except Reject Instr :=
  match field w 12 1 with
  | 0b0#1 => .ok (.stp (field w 0 5) (field w 10 2) (field w 5 5))
  | _ => .ok (.ldp (field w 0 5) (field w 10 2) (field w 5 5))

/-- The decoder of one instruction word: the prefix code of R100 on the top bits. Every word reaches exactly one arm. -/
def decodeWord (w : HalfWord) : Except Reject Instr :=
  match field w 13 3 with
  | 0b111#3 => .ok (.lds (field w 0 5) (field w 5 8))
  | 0b110#3 => .ok (.sts (field w 0 5) (field w 5 8))
  | 0b101#3 => decodeOp4 w
  | 0b100#3 => decodeOp5 w
  | _ => decodeOp6 w

/-- The instruction word whose byte at the lower address is `lo` (R64: it holds bits 7..0). -/
def wordOfBytes (lo hi : Byte) : HalfWord := hi ++ lo

/-- The bytes of an instruction word in address order (R64). -/
def bytesOfWord (w : HalfWord) : List Byte := [w.extractLsb' 0 8, w.extractLsb' 8 8]

/-- The decoder on bytes in address order: one instruction and the bytes after it. -/
def decodeBytes : List Byte → Except Reject (Instr × List Byte)
  | lo :: hi :: rest =>
    match decodeWord (wordOfBytes lo hi) with
    | .ok i => .ok (i, rest)
    | .error e => .error e
  | _ => .error .truncated

/-- The word of an instruction, format by format (R92, R101; the open bits of R103's rows are `x`). -/
def encode : Instr → HalfWord
  | .add a b => 0b000000#6 ++ b ++ a
  | .addi a imm5 => 0b000001#6 ++ imm5 ++ a
  | .sub a b => 0b000010#6 ++ b ++ a
  | .subi a imm5 => 0b000011#6 ++ imm5 ++ a
  | .cmp a b => 0b000100#6 ++ b ++ a
  | .cmpi a imm5 => 0b000101#6 ++ imm5 ++ a
  | .lsl a b => 0b000110#6 ++ b ++ a
  | .lsli a imm5 => 0b000111#6 ++ imm5 ++ a
  | .lsr a b => 0b001000#6 ++ b ++ a
  | .lsri a imm5 => 0b001001#6 ++ imm5 ++ a
  | .asr a b => 0b001010#6 ++ b ++ a
  | .asri a imm5 => 0b001011#6 ++ imm5 ++ a
  | .mov a b => 0b001100#6 ++ b ++ a
  | .movi a imm5 => 0b001101#6 ++ imm5 ++ a
  | .and a b => 0b001110#6 ++ b ++ a
  | .andn a b => 0b001111#6 ++ b ++ a
  | .or a b => 0b010000#6 ++ b ++ a
  | .xor a b => 0b010001#6 ++ b ++ a
  | .bgen a imm5 => 0b010010#6 ++ imm5 ++ a
  | .ext8d a b => 0b010011#6 ++ b ++ a
  | .skp0 a imm5 => 0b010100#6 ++ imm5 ++ a
  | .skp1 a imm5 => 0b010101#6 ++ imm5 ++ a
  | .ld a b => 0b010110#6 ++ b ++ a
  | .st a b => 0b010111#6 ++ b ++ a
  | .sts8s imm10 => 0b011000#6 ++ imm10
  | .sts16s imm9 => 0b011001#6 ++ imm9 ++ 0b0#1
  | .ext16d a b => 0b011010#6 ++ b ++ a
  | .movhi a imm5 => 0b011011#6 ++ imm5 ++ a
  | .usr0 a b => 0b011100#6 ++ b ++ a
  | .ext8s a imm2u => 0b011101000#9 ++ imm2u ++ a
  | .ext16s a imm1u => 0b011101001#9 ++ imm1u ++ 0b0#1 ++ a
  | .st8s a imm2u => 0b011101100#9 ++ imm2u ++ a
  | .st16s a imm1u => 0b011101101#9 ++ imm1u ++ 0b0#1 ++ a
  | .save imm8v => 0b01111000#8 ++ imm8v
  | .trap imm6v => 0b0111100100#10 ++ imm6v
  | .not a => 0b01111100000#11 ++ a
  | .neg a => 0b01111100001#11 ++ a
  | .abs a => 0b01111100010#11 ++ a
  | .sext8 a => 0b01111100011#11 ++ a
  | .sext16 a => 0b01111100100#11 ++ a
  | .rlc a => 0b01111100101#11 ++ a
  | .rrc a => 0b01111100110#11 ++ a
  | .swap a => 0b01111101000#11 ++ a
  | .usr1 a => 0b01111101001#11 ++ a
  | .usr2 a => 0b01111101010#11 ++ a
  | .usr3 a => 0b01111101011#11 ++ a
  | .usr4 a => 0b01111101100#11 ++ a
  | .restore => 0b0111110110100000#16
  | .tret a => 0b01111101110#11 ++ a
  | .st8d a => 0b01111110000#11 ++ a
  | .st16d a => 0b01111110001#11 ++ a
  | .fill8 a => 0b01111110010#11 ++ a
  | .fill16 a => 0b01111110011#11 ++ a
  | .mstep a => 0b01111110100#11 ++ a
  | .mul a => 0b01111110101#11 ++ a
  | .skprz a => 0b01111110110#11 ++ a
  | .skps imm4w => 0b011111101110#12 ++ imm4w
  | .wrctl a => 0b01111111000#11 ++ a
  | .rdctl a => 0b01111111001#11 ++ a
  | .skprnz a => 0b01111111010#11 ++ a
  | .jmp a => 0b01111111110#11 ++ a
  | .call a => 0b01111111111#11 ++ a
  | .br imm11 => 0b10000#5 ++ imm11
  | .bsr imm11 => 0b10001#5 ++ imm11
  | .pfx imm11 => 0b10011#5 ++ imm11
  | .stp a p imm5 => 0b1010#4 ++ p ++ imm5 ++ a
  | .ldp a p imm5 => 0b1011#4 ++ p ++ imm5 ++ a
  | .sts a imm8 => 0b110#3 ++ imm8 ++ a
  | .lds a imm8 => 0b111#3 ++ imm8 ++ a
  | .unused011101010 x => 0b011101010#9 ++ x
  | .unused011101011 x => 0b011101011#9 ++ x
  | .unlisted011101110 x => 0b011101110#9 ++ x
  | .unlisted011101111 x => 0b011101111#9 ++ x
  | .unlisted01111010 x => 0b01111010#8 ++ x
  | .unlisted01111011 x => 0b01111011#8 ++ x
  | .unused01111100111 x => 0b01111100111#11 ++ x
  | .unused01111101111 x => 0b01111101111#11 ++ x
  | .unused01111111011 x => 0b01111111011#11 ++ x
  | .unused01111111100 x => 0b01111111100#11 ++ x
  | .unused01111111101 x => 0b01111111101#11 ++ x
  | .unlisted10010 x => 0b10010#5 ++ x

/-- What this decoder reads from the table's own numbering of an instruction's bits: the 16 bits of `w` stored as the
hardware stores them, low byte first (R64), and given to the decoder of bytes. -/
def decodeTableWord (nbits w : Nat) : Option Instr :=
  match decodeBytes (bytesOfWord (BitVec.ofNat 16 (w % 2 ^ nbits))) with
  | .ok (i, _) => some i
  | .error _ => none

/-- A row of the opcode map: the word `w` is this row's when `w & mask = pattern` (R101, R103). -/
structure OpcodeRow where
  mnemonic : String
  pattern : HalfWord
  mask : HalfWord
deriving DecidableEq, Repr

/-- The opcode map in the order of spec/opcode_table.json: the 69 instructions of R101. -/
def opcodeMap : List OpcodeRow := [
  ⟨"ADD", 0x0000#16, 0xFC00#16⟩,
  ⟨"ADDI", 0x0400#16, 0xFC00#16⟩,
  ⟨"SUB", 0x0800#16, 0xFC00#16⟩,
  ⟨"SUBI", 0x0C00#16, 0xFC00#16⟩,
  ⟨"CMP", 0x1000#16, 0xFC00#16⟩,
  ⟨"CMPI", 0x1400#16, 0xFC00#16⟩,
  ⟨"LSL", 0x1800#16, 0xFC00#16⟩,
  ⟨"LSLI", 0x1C00#16, 0xFC00#16⟩,
  ⟨"LSR", 0x2000#16, 0xFC00#16⟩,
  ⟨"LSRI", 0x2400#16, 0xFC00#16⟩,
  ⟨"ASR", 0x2800#16, 0xFC00#16⟩,
  ⟨"ASRI", 0x2C00#16, 0xFC00#16⟩,
  ⟨"MOV", 0x3000#16, 0xFC00#16⟩,
  ⟨"MOVI", 0x3400#16, 0xFC00#16⟩,
  ⟨"AND", 0x3800#16, 0xFC00#16⟩,
  ⟨"ANDN", 0x3C00#16, 0xFC00#16⟩,
  ⟨"OR", 0x4000#16, 0xFC00#16⟩,
  ⟨"XOR", 0x4400#16, 0xFC00#16⟩,
  ⟨"BGEN", 0x4800#16, 0xFC00#16⟩,
  ⟨"EXT8D", 0x4C00#16, 0xFC00#16⟩,
  ⟨"SKP0", 0x5000#16, 0xFC00#16⟩,
  ⟨"SKP1", 0x5400#16, 0xFC00#16⟩,
  ⟨"LD", 0x5800#16, 0xFC00#16⟩,
  ⟨"ST", 0x5C00#16, 0xFC00#16⟩,
  ⟨"STS8S", 0x6000#16, 0xFC00#16⟩,
  ⟨"STS16S", 0x6400#16, 0xFC01#16⟩,
  ⟨"EXT16D", 0x6800#16, 0xFC00#16⟩,
  ⟨"MOVHI", 0x6C00#16, 0xFC00#16⟩,
  ⟨"USR0", 0x7000#16, 0xFC00#16⟩,
  ⟨"EXT8S", 0x7400#16, 0xFF80#16⟩,
  ⟨"EXT16S", 0x7480#16, 0xFFA0#16⟩,
  ⟨"ST8S", 0x7600#16, 0xFF80#16⟩,
  ⟨"ST16S", 0x7680#16, 0xFFA0#16⟩,
  ⟨"SAVE", 0x7800#16, 0xFF00#16⟩,
  ⟨"TRAP", 0x7900#16, 0xFFC0#16⟩]
 ++ [
  ⟨"NOT", 0x7C00#16, 0xFFE0#16⟩,
  ⟨"NEG", 0x7C20#16, 0xFFE0#16⟩,
  ⟨"ABS", 0x7C40#16, 0xFFE0#16⟩,
  ⟨"SEXT8", 0x7C60#16, 0xFFE0#16⟩,
  ⟨"SEXT16", 0x7C80#16, 0xFFE0#16⟩,
  ⟨"RLC", 0x7CA0#16, 0xFFE0#16⟩,
  ⟨"RRC", 0x7CC0#16, 0xFFE0#16⟩,
  ⟨"SWAP", 0x7D00#16, 0xFFE0#16⟩,
  ⟨"USR1", 0x7D20#16, 0xFFE0#16⟩,
  ⟨"USR2", 0x7D40#16, 0xFFE0#16⟩,
  ⟨"USR3", 0x7D60#16, 0xFFE0#16⟩,
  ⟨"USR4", 0x7D80#16, 0xFFE0#16⟩,
  ⟨"RESTORE", 0x7DA0#16, 0xFFFF#16⟩,
  ⟨"TRET", 0x7DC0#16, 0xFFE0#16⟩,
  ⟨"ST8D", 0x7E00#16, 0xFFE0#16⟩,
  ⟨"ST16D", 0x7E20#16, 0xFFE0#16⟩,
  ⟨"FILL8", 0x7E40#16, 0xFFE0#16⟩,
  ⟨"FILL16", 0x7E60#16, 0xFFE0#16⟩,
  ⟨"MSTEP", 0x7E80#16, 0xFFE0#16⟩,
  ⟨"MUL", 0x7EA0#16, 0xFFE0#16⟩,
  ⟨"SKPRZ", 0x7EC0#16, 0xFFE0#16⟩,
  ⟨"SKPS", 0x7EE0#16, 0xFFF0#16⟩,
  ⟨"WRCTL", 0x7F00#16, 0xFFE0#16⟩,
  ⟨"RDCTL", 0x7F20#16, 0xFFE0#16⟩,
  ⟨"SKPRNZ", 0x7F40#16, 0xFFE0#16⟩,
  ⟨"JMP", 0x7FC0#16, 0xFFE0#16⟩,
  ⟨"CALL", 0x7FE0#16, 0xFFE0#16⟩,
  ⟨"BR", 0x8000#16, 0xF800#16⟩,
  ⟨"BSR", 0x8800#16, 0xF800#16⟩,
  ⟨"PFX", 0x9800#16, 0xF800#16⟩,
  ⟨"STP", 0xA000#16, 0xF000#16⟩,
  ⟨"LDP", 0xB000#16, 0xF000#16⟩,
  ⟨"STS", 0xC000#16, 0xE000#16⟩,
  ⟨"LDS", 0xE000#16, 0xE000#16⟩]

/-- The twelve rows of R103 that are no instruction. -/
def unusedMap : List OpcodeRow := [
  ⟨"UNUSED_011101010", 0x7500#16, 0xFF80#16⟩,
  ⟨"UNUSED_011101011", 0x7580#16, 0xFF80#16⟩,
  ⟨"UNLISTED_011101110", 0x7700#16, 0xFF80#16⟩,
  ⟨"UNLISTED_011101111", 0x7780#16, 0xFF80#16⟩,
  ⟨"UNLISTED_01111010", 0x7A00#16, 0xFF00#16⟩,
  ⟨"UNLISTED_01111011", 0x7B00#16, 0xFF00#16⟩,
  ⟨"UNUSED_01111100111", 0x7CE0#16, 0xFFE0#16⟩,
  ⟨"UNUSED_01111101111", 0x7DE0#16, 0xFFE0#16⟩,
  ⟨"UNUSED_01111111011", 0x7F60#16, 0xFFE0#16⟩,
  ⟨"UNUSED_01111111100", 0x7F80#16, 0xFFE0#16⟩,
  ⟨"UNUSED_01111111101", 0x7FA0#16, 0xFFE0#16⟩,
  ⟨"UNLISTED_10010", 0x9000#16, 0xF800#16⟩]

/-- The mnemonic of an instruction's row in spec/opcode_table.json. -/
def Instr.mnemonic : Instr → String
  | .add _ _ => "ADD"
  | .addi _ _ => "ADDI"
  | .sub _ _ => "SUB"
  | .subi _ _ => "SUBI"
  | .cmp _ _ => "CMP"
  | .cmpi _ _ => "CMPI"
  | .lsl _ _ => "LSL"
  | .lsli _ _ => "LSLI"
  | .lsr _ _ => "LSR"
  | .lsri _ _ => "LSRI"
  | .asr _ _ => "ASR"
  | .asri _ _ => "ASRI"
  | .mov _ _ => "MOV"
  | .movi _ _ => "MOVI"
  | .and _ _ => "AND"
  | .andn _ _ => "ANDN"
  | .or _ _ => "OR"
  | .xor _ _ => "XOR"
  | .bgen _ _ => "BGEN"
  | .ext8d _ _ => "EXT8D"
  | .skp0 _ _ => "SKP0"
  | .skp1 _ _ => "SKP1"
  | .ld _ _ => "LD"
  | .st _ _ => "ST"
  | .sts8s _ => "STS8S"
  | .sts16s _ => "STS16S"
  | .ext16d _ _ => "EXT16D"
  | .movhi _ _ => "MOVHI"
  | .usr0 _ _ => "USR0"
  | .ext8s _ _ => "EXT8S"
  | .ext16s _ _ => "EXT16S"
  | .st8s _ _ => "ST8S"
  | .st16s _ _ => "ST16S"
  | .save _ => "SAVE"
  | .trap _ => "TRAP"
  | .not _ => "NOT"
  | .neg _ => "NEG"
  | .abs _ => "ABS"
  | .sext8 _ => "SEXT8"
  | .sext16 _ => "SEXT16"
  | .rlc _ => "RLC"
  | .rrc _ => "RRC"
  | .swap _ => "SWAP"
  | .usr1 _ => "USR1"
  | .usr2 _ => "USR2"
  | .usr3 _ => "USR3"
  | .usr4 _ => "USR4"
  | .restore => "RESTORE"
  | .tret _ => "TRET"
  | .st8d _ => "ST8D"
  | .st16d _ => "ST16D"
  | .fill8 _ => "FILL8"
  | .fill16 _ => "FILL16"
  | .mstep _ => "MSTEP"
  | .mul _ => "MUL"
  | .skprz _ => "SKPRZ"
  | .skps _ => "SKPS"
  | .wrctl _ => "WRCTL"
  | .rdctl _ => "RDCTL"
  | .skprnz _ => "SKPRNZ"
  | .jmp _ => "JMP"
  | .call _ => "CALL"
  | .br _ => "BR"
  | .bsr _ => "BSR"
  | .pfx _ => "PFX"
  | .stp _ _ _ => "STP"
  | .ldp _ _ _ => "LDP"
  | .sts _ _ => "STS"
  | .lds _ _ => "LDS"
  | .unused011101010 _ => "UNUSED_011101010"
  | .unused011101011 _ => "UNUSED_011101011"
  | .unlisted011101110 _ => "UNLISTED_011101110"
  | .unlisted011101111 _ => "UNLISTED_011101111"
  | .unlisted01111010 _ => "UNLISTED_01111010"
  | .unlisted01111011 _ => "UNLISTED_01111011"
  | .unused01111100111 _ => "UNUSED_01111100111"
  | .unused01111101111 _ => "UNUSED_01111101111"
  | .unused01111111011 _ => "UNUSED_01111111011"
  | .unused01111111100 _ => "UNUSED_01111111100"
  | .unused01111111101 _ => "UNUSED_01111111101"
  | .unlisted10010 _ => "UNLISTED_10010"

end Sys2Proof
end

