-- ==== Sys2Proof/Machine/Platform.lean ====
section
/-! DEFINITION. The fields of STATUS, and the open parameters of R4 that one machine fixes, as plain data with the spec's
defaults: where the fields of STATUS lie (`statusLayout`), the control-register numbers (`ctlMap`), the conditions of
SKPS (`ccTable`), the memory map (`platformMem`), and the rest. -/

namespace Sys2Proof.Machine

/-- STATUS, and the copy of it ISTATUS holds: the fields of R32 at the widths of R33. The other bits of the control register
are reserved, read as 0 and ignored on a write (R33), so they hold nothing. -/
structure Status where
  /-- Exceptions globally enabled. -/
  ie : Bool
  /-- The priority threshold: a number `n` is accepted only if `n < ipri`. -/
  ipri : BitVec 6
  /-- The current window pointer (CWP_BITS = 5). -/
  cwp : BitVec 5
  /-- Negative. -/
  n : Bool
  /-- Signed overflow. -/
  v : Bool
  /-- Zero. -/
  z : Bool
  /-- Carry. -/
  c : Bool
deriving DecidableEq, Repr

/-! ## statusLayout and ctlMap -/

/-- `statusLayout` (R4, R33): the position of the lowest bit of each field of STATUS as RDCTL reads it. -/
structure StatusLayout where
  ie : Nat
  ipri : Nat
  cwp : Nat
  n : Nat
  v : Nat
  z : Nat
  c : Nat
deriving DecidableEq, Repr

/-- The layout of R33: IE 15, IPRI 14..9, CWP 8..4, N 3, V 2, Z 1, C 0 (decision D4; log 6). -/
def statusLayoutDefault : StatusLayout := { ie := 15, ipri := 9, cwp := 4, n := 3, v := 2, z := 1, c := 0 }

/-- `ctlMap` (R4): the numbers of ISTATUS (R35) and WVALID (R36), STATUS being 0 by the source (R32), and where WVALID
holds the two limits. -/
structure ControlMap where
  istatus : BitVec 11
  wvalid : BitVec 11
  hiLimit : Nat
  loLimit : Nat
deriving DecidableEq, Repr

/-- The map of R35 and R36: ISTATUS 1, WVALID 2, HI_LIMIT in bits 9..5, LO_LIMIT in bits 4..0 (decision D5; log 7). -/
def controlMapDefault : ControlMap := { istatus := 1#11, wvalid := 2#11, hiLimit := 5, loLimit := 0 }

/-! ## ccTable -/

/-- What a condition of SKPS tests: an expression over the flags (R150). -/
inductive FlagTest where
  | n
  | v
  | z
  | c
  /-- The test does not hold. -/
  | not (f : FlagTest)
  /-- One of the two holds. -/
  | or (f g : FlagTest)
  /-- Exactly one of the two holds. -/
  | differ (f g : FlagTest)
deriving DecidableEq, Repr

/-- Does the test hold of the flags? -/
def FlagTest.holds (t : Status) : FlagTest → Bool
  | .n => t.n
  | .v => t.v
  | .z => t.z
  | .c => t.c
  | .not f => !f.holds t
  | .or f g => f.holds t || g.holds t
  | .differ f g => xor (f.holds t) (g.holds t)

/-- The table of R150: `cc_c`, `cc_nc`, `cc_z`, `cc_nz`, `cc_mi`, `cc_pl`, `cc_ge`, `cc_lt`, `cc_le`, `cc_gt`, `cc_v`, `cc_nv`,
`cc_ls`, `cc_hi`; 14 and 15 name no condition (decision D7; log 10). -/
def conditionTableDefault : List (BitVec 4 × FlagTest) := [
  (0#4, .c), (1#4, .not .c),
  (2#4, .z), (3#4, .not .z),
  (4#4, .n), (5#4, .not .n),
  (6#4, .not (.differ .n .v)), (7#4, .differ .n .v),
  (8#4, .or .z (.differ .n .v)), (9#4, .not (.or .z (.differ .n .v))),
  (10#4, .v), (11#4, .not .v),
  (12#4, .or .c .z), (13#4, .not (.or .c .z))]

/-! ## platformMem -/

/-- What a region of the address space is (93_implementation_defined.md U14). -/
inductive RegionKind where
  /-- Memory that can be read and written. -/
  | ram
  /-- Memory that can be read. -/
  | rom
  /-- A peripheral, and whether the platform defines reading it and writing it (R69, decision D24). -/
  | device (reads writes : Bool)
deriving DecidableEq, Repr

/-- One region of `platformMem` (R71): the words whose byte addresses lie in `base` to `base + size - 1`. -/
structure Region where
  base : Nat
  size : Nat
  kind : RegionKind
deriving DecidableEq, Repr

/-! ## The machine's parameters -/

/-- The open parameters one machine fixes (R4, R49); no step changes them. The model's own record. -/
structure Platform where
  /-- VECBASE: byte address of vector 0 (R70; log 11). -/
  vecBase : Word
  /-- ADDR_BITS: how many low bits of an address are significant (R4, decision D3; log 19). -/
  addrBits : Nat
  /-- statusLayout (R33; log 6). -/
  statusLayout : StatusLayout
  /-- ctlMap (R35, R36; log 7). -/
  controlMap : ControlMap
  /-- ccTable: the condition each number of SKPS names, if any (R150; log 10). -/
  conditions : List (BitVec 4 × FlagTest)
  /-- platformMem: which addresses are memory, which are devices; the others are unmapped (R71; log 12). -/
  regions : List Region
  /-- The custom instructions USR0 to USR4 that are configured (R155; log 14). -/
  usrConfigured : List (Fin 5)
  /-- FETCH_AHEAD, or none for the model without the parameter (R77; log 15). -/
  fetchAhead : Option Nat
deriving DecidableEq, Repr

/-- The platform after reset: the spec's defaults where it gives them (R4), VECBASE of its own vectors, RAM over the whole
address space, every custom instruction configured, no FETCH_AHEAD (log 11, 12, 14, 15). -/
def Platform.reset : Platform :=
  { vecBase := Config.resetVecBase
    addrBits := Config.resetAddrBits
    statusLayout := statusLayoutDefault
    controlMap := controlMapDefault
    conditions := conditionTableDefault
    regions := [{ base := 0, size := Config.addressSpace, kind := .ram }]
    usrConfigured := [0, 1, 2, 3, 4]
    fetchAhead := none }

end Sys2Proof.Machine
end

