-- ==== Sys2Proof/Machine/State.lean ====
section
/-! DEFINITION. The state of the machine as plain data: every piece of state 10_state.md gives it, the open parameters of
the machine and the environment's inputs (R48) as data beside it, the reasons a step can stop, and the state after reset
(R50). -/

namespace Sys2Proof.Machine

/-- The environment's input of one step (R48): the inputs `irq` and `irq_number`, and whether a request that may be taken
at this boundary is taken at it (R256: the recognition latency is the environment's choice). The model's own: log 16. -/
structure IrqInput where
  irq : Bool
  irqNumber : BitVec 6
  recognise : Bool
deriving DecidableEq, Repr

/-- The state of the machine. -/
structure State where
  /-- The physical register file `RF[0 .. REGFILE-1]`; its length is REGFILE (R22, R23). -/
  rf : List Word
  /-- Byte address of the instruction being executed (R28). -/
  pc : Word
  /-- STATUS, control register 0 (R32). -/
  status : Status
  /-- ISTATUS, control register 1 (R35). -/
  istatus : Status
  /-- LO_LIMIT, bits 4..0 of control register 2 (R36). -/
  loLimit : BitVec 5
  /-- HI_LIMIT, bits 9..5 of control register 2 (R36). -/
  hiLimit : BitVec 5
  /-- The prefix register K (R41). -/
  k : BitVec 11
  /-- The previous executed instruction was PFX (R42). -/
  pfx : Bool
  /-- The next instruction is to be cancelled (R43). -/
  skip : Bool
  /-- The pending target of a delayed transfer (R45). -/
  btarget : Option Word
  /-- The previous instruction was an executed WRCTL to `%ctl0` (R46). -/
  ctl0Hazard : Bool
  /-- External memory (R60): the bytes that differ from what an unlisted byte reads as, addresses rising (log 13). -/
  mem : List Host.Cell
  /-- The open parameters of the machine (R4). The model's own. -/
  platform : Platform
  /-- The environment's inputs of the coming steps; none listed means no request (R48). The model's own: log 16. -/
  env : List IrqInput
  /-- How many instructions were executed or cancelled since reset (R305). The model's own: log 15. -/
  now : Nat
  /-- For each byte stored to since reset, `now` at its last store, addresses rising (R77). The model's own: log 15. -/
  stores : List (Nat × Nat)
  /-- Every bus access to a device since reset, the latest first (R68, R69). The model's own: log 12. -/
  bus : List BusAccess
deriving DecidableEq, Repr

/-- Why the machine stops with a fault. -/
inductive Fault where
  /-- An instruction of R299's list stands in a delay slot. Raised by the step. Safe: the source gives no behaviour. -/
  | forbiddenDelaySlot
  /-- The word after an executed WRCTL to `%ctl0` is not NOP (R46, R301). Raised by the step. Safe. -/
  | nopRequiredAfterWrctlStatus
  /-- Exception entry would decrement CWP = 0 (R270). Raised by exception entry. Safe. -/
  | exceptionAtWindowZero
  /-- A windowed register is used while CWP selects a window the file does not have (R24). Raised by the operations that
  read and write registers. Safe. -/
  | windowOutOfFile
  /-- Fetch from a location stored to since reset, not long enough ago (R77). Raised by the fetch. Safe. -/
  | fetchAfterStoreUnspecified
  /-- Access to an address the platform does not map: the core is stuck (R71). Raised by the memory operations. Safe. -/
  | unmappedAddress
  /-- Access to a device that the platform does not define: stuck (R69, decision D24). Raised by the memory operations.
  Safe. -/
  | deviceAccessUndefined
  /-- Store to read-only memory, which the platform does not define: stuck (decision D24). Raised by stores. Safe. -/
  | storeToRom
deriving DecidableEq, Repr

/-- Why the machine declines to give an instruction a meaning. -/
inductive Refusal where
  /-- The instruction has no meaning in this model yet. Raised by `exec` alone; no arm does so now. Safe. -/
  | notModelled (mnemonic : String)
  /-- The word is no instruction (R95, R103). Raised by the decoding step and by the twelve unused rows. Safe. -/
  | unusedEncoding
  /-- SKPS with condition number 14 or 15 (R149). Raised by SKPS. Safe. -/
  | unknownCondition
  /-- RDCTL or WRCTL with `K` above 2 (R37). Raised by RDCTL and WRCTL. Safe. -/
  | unknownControlRegister
  /-- USR<i> whose operation is not configured (R155). Raised by USR0 to USR4. Safe. -/
  | customInstructionNotConfigured
deriving DecidableEq, Repr

/-- ISTATUS after reset, unspecified by R50: every field 0 (log 3). -/
def Status.zero : Status :=
  { ie := false, ipri := 0#6, cwp := 0#5, n := false, v := false, z := false, c := false }

/-- What R50 leaves to the machine and to chance when it comes out of reset: the parameters REGFILE (the length of `rf`),
RESET_ADDR, HI_LIMIT_RESET and the platform, and every unspecified value (registers, flags, ISTATUS, memory). -/
structure PowerUp where
  rf : List Word
  resetAddr : Word
  hiLimitReset : BitVec 5
  n : Bool
  v : Bool
  z : Bool
  c : Bool
  istatus : Status
  mem : List Host.Cell
  platform : Platform
  env : List IrqInput
deriving DecidableEq, Repr

/-- The machine right after reset, as the table of R50 says (R290), for every choice of what it leaves open: IE 0, IPRI 63,
CWP and HI_LIMIT at HI_LIMIT_RESET, LO_LIMIT 1, the hidden state idle (log 4). -/
def State.powerUp (u : PowerUp) : State :=
  { rf := u.rf
    pc := u.resetAddr
    status := { ie := false, ipri := 63#6, cwp := u.hiLimitReset, n := u.n, v := u.v, z := u.z, c := u.c }
    istatus := u.istatus
    loLimit := 1#5
    hiLimit := u.hiLimitReset
    k := 0#11
    pfx := false
    skip := false
    btarget := none
    ctl0Hazard := false
    mem := u.mem
    platform := u.platform
    env := u.env
    now := 0
    stores := []
    bus := [] }

/-- The choices of `State.reset`: 128 registers and HI_LIMIT_RESET = NWIN - 1 = 6 (R4), every unspecified value 0, memory
with nothing listed, no interrupt request (log 1 to 5, 13, 16). -/
def PowerUp.default : PowerUp :=
  { rf := List.replicate Config.resetRegFile 0#32
    resetAddr := Config.resetAddr
    hiLimitReset := 6#5
    n := false
    v := false
    z := false
    c := false
    istatus := Status.zero
    mem := []
    platform := Platform.reset
    env := [] }

/-- The machine right after reset (R50, R290). -/
def State.reset : State := State.powerUp PowerUp.default

end Sys2Proof.Machine
end

