-- ==== Sys2Proof/Machine/Ops.lean ====
section
/-! DEFINITION. The named operations every meaning is written over: memory in its canonical form, the register window,
the control registers, the end of an instruction, taking an exception and returning from one, and fetching an
instruction's bytes. -/

namespace Sys2Proof.Machine

/-- Why an operation stops: a fault or a refusal. -/
inductive Stop where
  | fault (f : Fault)
  | refusal (r : Refusal)
deriving DecidableEq, Repr

/-- What a meaning answers. -/
abbrev Result := Host.Outcome State Fault Refusal

/-- The outcome of an instruction whose operations answered a state, or stopped. -/
def outcome : Except Stop State → Result
  | .ok s => .next s
  | .error (.fault f) => .fault f
  | .error (.refusal r) => .refused r

/-! ## Sparse data by key: addresses strictly rising -/

/-- The value at key `a`. -/
def Assoc.find {α : Type} (a : Nat) : List (Nat × α) → Option α
  | [] => none
  | (b, w) :: rest => if a = b then some w else Assoc.find a rest

/-- The list with `v` at key `a`, in rising order. -/
def Assoc.put {α : Type} (a : Nat) (v : α) : List (Nat × α) → List (Nat × α)
  | [] => [(a, v)]
  | (b, w) :: rest =>
    if a < b then (a, v) :: (b, w) :: rest
    else if a = b then (a, v) :: rest
    else (b, w) :: Assoc.put a v rest

/-- The list without key `a`. -/
def Assoc.drop {α : Type} (a : Nat) : List (Nat × α) → List (Nat × α)
  | [] => []
  | (b, w) :: rest => if a = b then Assoc.drop a rest else (b, w) :: Assoc.drop a rest

/-- Every key is above `a`. -/
def Assoc.above {α : Type} (a : Nat) : List (Nat × α) → Bool
  | [] => true
  | (b, _) :: rest => decide (a < b) && Assoc.above a rest

/-- Keys strictly rise, and each lies in the address space. -/
def Assoc.rising {α : Type} : List (Nat × α) → Bool
  | [] => true
  | (b, _) :: rest => decide (b < Config.addressSpace) && Assoc.above b rest && Assoc.rising rest

/-! ## Memory -/

/-- The byte at address `a` (R60): what is listed, else what an unlisted byte reads as. -/
def Memory.read (m : List Host.Cell) (a : Nat) : Byte := (Assoc.find a m).getD Config.unlistedByte

/-- The memory with byte `v` at address `a`, in canonical form. -/
def Memory.write (m : List Host.Cell) (a : Nat) (v : Byte) : List Host.Cell :=
  if v = Config.unlistedByte then Assoc.drop a m else Assoc.put a v m

/-- The memory with the bytes `vs` from address `a` on. -/
def Memory.writeAll (m : List Host.Cell) (a : Nat) : List Byte → List Host.Cell
  | [] => m
  | v :: vs => Memory.writeAll (Memory.write m a v) (a + 1) vs

/-- No entry equals what an unlisted address reads as. -/
def Memory.allListed : List Host.Cell → Bool
  | [] => true
  | (_, v) :: rest => decide (v ≠ Config.unlistedByte) && Memory.allListed rest

/-- The canonical form of memory: addresses strictly rise within the address space, and no entry is superfluous. -/
def Memory.wf (m : List Host.Cell) : Bool := Assoc.rising m && Memory.allListed m

/-- The byte of memory at address `a` in state `s`. -/
def State.byteAt (s : State) (a : Nat) : Byte := Memory.read s.mem a

/-! ## The bus -/

/-- `align32(X) = X & 0xFFFFFFFC` (R65). -/
def align32 (x : Word) : Word := x &&& 0xFFFFFFFC#32

/-- The address the bus sees: the low ADDR_BITS bits (R4, decision D3). -/
def State.busAddr (s : State) (x : Word) : Nat := x.toNat % 2 ^ s.platform.addrBits

/-- The bus address of the aligned word that holds the byte at `x` (R61, R65). -/
def State.wordAddr (s : State) (x : Word) : Nat := s.busAddr (align32 x)

/-- What the platform has at the aligned word that holds byte address `a`, the unit of every access (R61); none where
nothing is mapped (R71). -/
def State.kindAt (s : State) (a : Nat) : Option RegionKind :=
  (s.platform.regions.find? fun r => decide (r.base ≤ a / 4 * 4) && decide (a / 4 * 4 < r.base + r.size)).map Region.kind

/-- Who answers an access. -/
inductive Port where
  | memory
  | device
deriving DecidableEq, Repr

/-- Who answers a read at `a`. Unmapped: stuck (R71). A device whose reads the platform does not define: stuck (D24). -/
def State.readPort (s : State) (a : Nat) : Except Stop Port :=
  match s.kindAt a with
  | none => .error (.fault .unmappedAddress)
  | some .ram => .ok .memory
  | some .rom => .ok .memory
  | some (.device reads _) => if reads then .ok .device else .error (.fault .deviceAccessUndefined)

/-- Who answers a write at `a`. As `readPort`; a store to ROM is stuck (decision D24). -/
def State.writePort (s : State) (a : Nat) : Except Stop Port :=
  match s.kindAt a with
  | none => .error (.fault .unmappedAddress)
  | some .ram => .ok .memory
  | some .rom => .error (.fault .storeToRom)
  | some (.device _ writes) => if writes then .ok .device else .error (.fault .deviceAccessUndefined)

/-- The state once the access has been made: a device has seen it (R68), memory keeps no record. -/
def State.accessed (s : State) (p : Port) (a size : Nat) (stored : Option (List Byte)) : State :=
  match p with
  | .memory => s
  | .device => { s with bus := { now := s.now, addr := a, size := size, stored := stored } :: s.bus }

/-- The byte at `a` as the side `p` answers it: what memory holds, or what the device makes of its history (R69). -/
def State.answer (s : State) (p : Port) (a : Nat) : Byte :=
  match p with
  | .memory => s.byteAt a
  | .device => Config.deviceByte s.bus a

/-- The 32-bit value whose bytes `f` gives from address `a` on, little-endian (R63). -/
def wordFrom (f : Nat → Byte) (a : Nat) : Word := f (a + 3) ++ f (a + 2) ++ f (a + 1) ++ f a

/-- The 32-bit value in memory from `a` on (R63). -/
def State.wordAt (s : State) (a : Nat) : Word := wordFrom s.byteAt a

/-- What a word read answers: the value, and the state after the access. -/
structure Loaded where
  value : Word
  after : State
deriving DecidableEq, Repr

/-- `MemRead(align32(x), 4)` (R61, R66): one aligned 32-bit read. -/
def State.loadWord (s : State) (x : Word) : Except Stop Loaded := do
  let p ← s.readPort (s.wordAddr x)
  let t := s.accessed p (s.wordAddr x) 4 none
  pure { value := wordFrom (t.answer p) (s.wordAddr x), after := t }

/-- The log of stored-to bytes with `n` bytes from `a` on stored at time `now` (R77). -/
def logStores (log : List (Nat × Nat)) (now a : Nat) : Nat → List (Nat × Nat)
  | 0 => log
  | n + 1 => logStores (Assoc.put a now log) now (a + 1) n

/-- The effect of storing the bytes `vs` from `a` on: memory holds them, or a device has seen them (R61, R68, R69); either
way the program has stored there (R77). -/
def State.stored (s : State) (p : Port) (a : Nat) (vs : List Byte) : State :=
  { s.accessed p a vs.length (some vs) with
    mem := match p with
      | .memory => Memory.writeAll s.mem a vs
      | .device => s.mem
    stores := logStores s.stores s.now a vs.length }

/-- One store of the bytes `vs`, all in one aligned word, from byte address `a` on (R61, R68). -/
def State.storeBytes (s : State) (a : Nat) (vs : List Byte) : Except Stop State := do
  let p ← s.writePort a
  pure (s.stored p a vs)

/-! ## The register window -/

/-- NWIN, the number of windows that fit in the file (R23). -/
def State.nwin (s : State) : Nat := (s.rf.length - 16) / 16

/-- The physical register that `%r i` names under the current CWP (R23); none where CWP selects a window the file does
not have (R24). DESIGN CHOICE (log 30): a file of 32 windows has window 31, so a CWP that wrapped there from 0 is in it. -/
def State.physIndex (s : State) (i : RegNum) : Option Nat :=
  if i.toNat < 8 then some i.toNat
  else if s.status.cwp.toNat < s.nwin then some (8 + 16 * s.status.cwp.toNat + (i.toNat - 8))
  else none

/-- `x[i]` (R8, R23), or the fault of R24. -/
def State.readReg (s : State) (i : RegNum) : Except Stop Word :=
  match (s.physIndex i).bind (fun j => s.rf[j]?) with
  | some v => .ok v
  | none => .error (.fault .windowOutOfFile)

/-- `x[i] <- v` (R8, R23), or the fault of R24. -/
def State.writeReg (s : State) (i : RegNum) (v : Word) : Except Stop State :=
  match s.physIndex i with
  | some j => if j < s.rf.length then .ok { s with rf := s.rf.set j v } else .error (.fault .windowOutOfFile)
  | none => .error (.fault .windowOutOfFile)

/-- `%r0`, the implicit operand of R25. -/
def regZero : RegNum := 0#5
/-- `%sp` is `%r14` (R26). -/
def regSp : RegNum := 14#5
/-- `%o7`, the link register, is `%r15` (R25). -/
def regLink : RegNum := 15#5
/-- `%fp` is `%r30` (R26). -/
def regFp : RegNum := 30#5
/-- `RP`: P selects `%r16` to `%r19` (R27). -/
def regPointer (p : BitVec 2) : RegNum := 0b100#3 ++ p

/-! ## STATUS and the control registers -/

/-- STATUS rewritten by `f`. -/
def State.mapStatus (s : State) (f : Status → Status) : State := { s with status := f s.status }

/-- The 32-bit value RDCTL reads: each field at its place in `statusLayout`, the rest 0 (R33). -/
def Status.pack (t : Status) (l : StatusLayout) : Word :=
  BitVec.ofNat 32 (t.ie.toNat * 2 ^ l.ie + t.ipri.toNat * 2 ^ l.ipri + t.cwp.toNat * 2 ^ l.cwp + t.n.toNat * 2 ^ l.n
    + t.v.toNat * 2 ^ l.v + t.z.toNat * 2 ^ l.z + t.c.toNat * 2 ^ l.c)

/-- The fields a 32-bit value written by WRCTL holds, each at its place in `statusLayout`; the rest is ignored (R33). -/
def Status.unpack (x : Word) (l : StatusLayout) : Status :=
  { ie := x.getLsbD l.ie, ipri := x.extractLsb' l.ipri 6, cwp := x.extractLsb' l.cwp 5,
    n := x.getLsbD l.n, v := x.getLsbD l.v, z := x.getLsbD l.z, c := x.getLsbD l.c }

/-- The control registers the spec defines (R37). -/
inductive Control where
  | status
  | istatus
  | wvalid
deriving DecidableEq, Repr

/-- The control register that `K` selects: STATUS is 0 (R32), ISTATUS and WVALID have their numbers in `ctlMap` (R35,
R36), and there is no other (R37). -/
def controlOf (m : ControlMap) (k : BitVec 11) : Option Control :=
  if k = 0#11 then some .status
  else if k = m.istatus then some .istatus
  else if k = m.wvalid then some .wvalid
  else none

/-- WVALID as RDCTL reads it: the two limits at their places in `ctlMap`, the rest 0 (R36). -/
def packLimits (hi lo : BitVec 5) (m : ControlMap) : Word :=
  BitVec.ofNat 32 (hi.toNat * 2 ^ m.hiLimit + lo.toNat * 2 ^ m.loLimit)

/-- `CTL[K]` as RDCTL reads it (R239). -/
def State.readControl (s : State) : Except Stop Word :=
  match controlOf s.platform.controlMap s.k with
  | some .status => .ok (s.status.pack s.platform.statusLayout)
  | some .istatus => .ok (s.istatus.pack s.platform.statusLayout)
  | some .wvalid => .ok (packLimits s.hiLimit s.loLimit s.platform.controlMap)
  | none => .error (.refusal .unknownControlRegister)

/-! ## The end of an instruction -/

/-- The address of the next instruction in program order: the pending branch target, else `pc + 2` (R47). -/
def State.nxt (s : State) : Word := s.btarget.getD (s.pc + 2#32)

/-- The end of an instruction that neither transfers control nor leaves anything for its successor: `K`, `pfx` cleared,
the pending target consumed, no hazard, `pc` advanced (R47 (b), (f)). -/
def State.retire (s : State) : State :=
  { s with pc := s.nxt, btarget := none, k := 0#11, pfx := false, ctl0Hazard := false }

/-- The end of a delayed transfer to `t`: as `retire`, with `t` pending while the delay slot executes (R45). -/
def State.retireTo (s : State) (t : Word) : State := { s.retire with btarget := some t }

/-- Write `v` to `%r i`, rewrite STATUS by `f`, and end the instruction. -/
def State.retireReg (s : State) (i : RegNum) (v : Word) (f : Status → Status) : Except Stop State := do
  let t ← s.writeReg i v
  pure (t.mapStatus f).retire

/-! ## Exceptions -/

/-- The hidden state in its idle value and `pc` at `t`: how TRAP, TRET and exception entry leave the core (R52, R262). -/
def State.redirect (s : State) (t : Word) : State :=
  { s with pc := t, btarget := none, skip := false, k := 0#11, pfx := false, ctl0Hazard := false }

/-- An exception with number `n` is taken only if IE is set and `n < IPRI` (R251). -/
def State.accepts (s : State) (n : BitVec 6) : Bool := s.status.ie && decide (n < s.status.ipri)

/-- STATUS as exception entry leaves it (R262, steps 2 to 4). -/
def Status.entered (t : Status) (n : BitVec 6) (decrementCWP : Bool) : Status :=
  { t with ie := false, ipri := n, cwp := if decrementCWP then t.cwp - 1#5 else t.cwp }

/-- The byte address of entry `n` of the exception vector table (R70). -/
def State.vectorAddr (s : State) (n : BitVec 6) : Word := s.platform.vecBase + n.zeroExtend 32 * 4#32

/-- `ExceptionEntry(n, ret, decrementCWP)` (R262): STATUS into ISTATUS, a new window, exceptions disabled, IPRI the
number, the return address shifted right by one into `%o7` of the window now current, the handler's address doubled
into `pc`. -/
def State.exceptionEntry (s : State) (n : BitVec 6) (ret : Word) (decrementCWP : Bool) : Except Stop State := do
  if decrementCWP && decide (s.status.cwp = 0#5) then
    .error (.fault .exceptionAtWindowZero)
  else
    let entered := { s with istatus := s.status, status := s.status.entered n decrementCWP }
    let linked ← entered.writeReg regLink (ret >>> 1)
    let handler ← linked.loadWord (linked.vectorAddr n)
    pure (handler.after.redirect (handler.value * 2#32))

/-- Return from an exception to the half-word address `t` (R141, R271): STATUS from ISTATUS, `pc` at `t * 2`. -/
def State.exceptionReturn (s : State) (t : Word) : State :=
  { s.redirect (t * 2#32) with status := s.istatus, skip := s.skip }

/-! ## Fetch -/

/-- The bus address fetch reads (R64): half-word lane `pc[1]` of the aligned word at `align32(pc)`. -/
def State.fetchAddr (s : State) : Nat := s.wordAddr s.pc + (if s.pc.getLsbD 1 then 2 else 0)

/-- Was the byte at `a` stored to too lately for a fetch to have a meaning (R77)? Without FETCH_AHEAD, any store since
reset; with it, a store not more than FETCH_AHEAD instructions ago. -/
def State.storedTooLately (s : State) (a : Nat) : Bool :=
  match Assoc.find a s.stores with
  | none => false
  | some t =>
    match s.platform.fetchAhead with
    | none => true
    | some d => decide (s.now - t ≤ d)

/-- What a fetch answers: the bytes, low address first, and the state after the access. -/
structure Fetched where
  bytes : List Byte
  after : State
deriving DecidableEq, Repr

/-- `MemRead(pc, 2)`: the two bytes of the instruction at `pc` (R64). -/
def State.fetchBytes (s : State) : Except Stop Fetched := do
  let a := s.fetchAddr
  let p ← s.readPort a
  if s.storedTooLately a || s.storedTooLately (a + 1) then
    .error (.fault .fetchAfterStoreUnspecified)
  else
    let t := s.accessed p a 2 none
    pure { bytes := [t.answer p a, t.answer p (a + 1)], after := t }

/-- `s` with the bytes `vs` placed from address `a` on from outside the machine: no store of the program. -/
def State.place (s : State) (a : Nat) : List Byte → State
  | [] => s
  | v :: vs => State.place { s with mem := Memory.write s.mem a v, stores := Assoc.drop a s.stores } (a + 1) vs

end Sys2Proof.Machine
end

