-- ==== Sys2Proof/Machine/Operands.lean ====
section
/-! DEFINITION. Every operand form: the immediates that `K` extends (30_encoding.md R96 to R98), the byte and half-word
lanes (R6, R63), the addresses of the load and store forms (48_load_store.md), branch targets, shift counts. -/

namespace Sys2Proof.Machine

/-! ## Immediates with K -/

/-- `K : IMM5`, 16 bits (R8). -/
def State.imm16 (s : State) (imm5 : BitVec 5) : HalfWord := s.k ++ imm5

/-- `immK = zext_32(K : IMM5)` (R96, R98 (a)). -/
def State.immK (s : State) (imm5 : BitVec 5) : Word := (s.imm16 imm5).zeroExtend 32

/-- `sext_32(K) * 4`, the word offset of LD, ST and the partial stores through a register (R98 (c)). -/
def State.offsetK (s : State) : Word := s.k.signExtend 32 * 4#32

/-- `sext_32(K : IMM5) * 4`, the word offset of LDP and STP (R98 (d)). -/
def State.offsetKImm (s : State) (imm5 : BitVec 5) : Word := (s.imm16 imm5).signExtend 32 * 4#32

/-- The second operand of AND, ANDN, OR and XOR (R97): `x[B]`, or `immK` with `IMM5` in the `B` field after PFX. -/
def State.logicOperand (s : State) (b : BitVec 5) : Except Stop Word :=
  if s.pfx then .ok (s.immK b) else s.readReg b

/-- The shift count `x[B][4:0]` (R191). -/
def shiftCount (y : Word) : Nat := (y.extractLsb' 0 5).toNat

/-- The target of BR and BSR: `pc + (sext_32(IMM11) + 1) * 2` (R131). -/
def State.branchTarget (s : State) (imm11 : BitVec 11) : Word := s.pc + (imm11.signExtend 32 + 1#32) * 2#32

/-- The link value of BSR and CALL: `(pc + 4) >> 1` (R132). -/
def State.link (s : State) : Word := (s.pc + 4#32) >>> 1

/-! ## Lanes -/

/-- `b<n>(X)` (R6). -/
def byteLane (n : BitVec 2) (x : Word) : Byte := x.extractLsb' (8 * n.toNat) 8

/-- `h<n>(X)` (R6). -/
def halfLane (n : BitVec 1) (x : Word) : HalfWord := x.extractLsb' (16 * n.toNat) 16

/-- The four bytes of a word in address order (R63). -/
def wordBytes (x : Word) : List Byte := [byteLane 0 x, byteLane 1 x, byteLane 2 x, byteLane 3 x]

/-- The two bytes of a half-word in address order (R63). -/
def halfBytes (h : HalfWord) : List Byte := [h.extractLsb' 0 8, h.extractLsb' 8 8]

/-- `n = X[1:0]`, the byte lane an address or a byte offset selects (R63). -/
def laneOf (x : Word) : BitVec 2 := x.extractLsb' 0 2

/-- `n = X[1]`, the half-word lane an address selects (R63). -/
def halfLaneOf (x : Word) : BitVec 1 := x.extractLsb' 1 1

/-! ## Stores -/

/-- The full-word store `MemWrite(align32(x), 4, v)` (R61, R215). -/
def State.storeWord (s : State) (x v : Word) : Except Stop State := s.storeBytes (s.wordAddr x) (wordBytes v)

/-- The byte store of lane `n` to the word at `align32(x)` (R222): `MemWrite(w + n, 1, b<n>(v))`. -/
def State.storeByteLane (s : State) (x : Word) (n : BitVec 2) (v : Word) : Except Stop State :=
  s.storeBytes (s.wordAddr x + n.toNat) [byteLane n v]

/-- The half-word store of lane `n` to the word at `align32(x)` (R222): `MemWrite(w + 2*n, 2, h<n>(v))`. -/
def State.storeHalfLane (s : State) (x : Word) (n : BitVec 1) (v : Word) : Except Stop State :=
  s.storeBytes (s.wordAddr x + 2 * n.toNat) (halfBytes (halfLane n v))

/-! ## Effective addresses -/

/-- `%sp + zext_32(IMM8) * 4` of LDS and STS, from the value of `%sp` (R220). -/
def stackWordAddr (sp : Word) (imm8 : BitVec 8) : Word := sp + imm8.zeroExtend 32 * 4#32

/-- `%sp + zext_32(IMM10)` of STS8S (R227). -/
def stackByteAddr (sp : Word) (imm10 : BitVec 10) : Word := sp + imm10.zeroExtend 32

/-- `%sp + zext_32(IMM9) * 2` of STS16S (R228). -/
def stackHalfAddr (sp : Word) (imm9 : BitVec 9) : Word := sp + imm9.zeroExtend 32 * 2#32

end Sys2Proof.Machine
end

