-- ==== Sys2Proof/Machine/Flags.lean ====
section
/-! DEFINITION. Every flag computation (45_arithmetic_compare.md R170, 46_logic_shift_rotate.md R185, R197, R198) and the
conditions of SKPS that read the flags (42_conditional_skip.md R150). -/

namespace Sys2Proof.Machine

/-- STATUS unchanged: the instructions without a "Flags affected" note (R34). -/
def keepFlags (t : Status) : Status := t

/-- The flags of the addition `x + y` (R170): carry out of bit 31, signed overflow. -/
def addFlags (x y : Word) (t : Status) : Status :=
  { t with
    n := (x + y).msb
    v := x.msb == y.msb && (x + y).msb != x.msb
    c := decide (4294967296 ≤ x.toNat + y.toNat)
    z := x + y == 0#32 }

/-- The flags of the subtraction `x - y` (R170): C is the borrow. -/
def subFlags (x y : Word) (t : Status) : Status :=
  { t with
    n := (x - y).msb
    v := x.msb != y.msb && (x - y).msb != x.msb
    c := decide (x.toNat < y.toNat)
    z := x - y == 0#32 }

/-- The flags of the logic instructions for the result `r` (R185): N and Z; V and C keep their values. -/
def logicFlags (r : Word) (t : Status) : Status := { t with n := r.msb, z := r == 0#32 }

/-- C set to `b`, as RLC and RRC do (R197, R198). -/
def carryFlag (b : Bool) (t : Status) : Status := { t with c := b }

/-- The test a condition number names in `ccTable`, if it names one (R149, R150). -/
def conditionOf (table : List (BitVec 4 × FlagTest)) (code : BitVec 4) : Option FlagTest :=
  (table.find? fun row => row.1 == code).map Prod.snd

end Sys2Proof.Machine
end

