-- ==== Sys2Proof/Machine/Arith.lean ====
section
/-! DEFINITION. Arithmetic and compare (45_arithmetic_compare.md): ADD, ADDI, SUB, SUBI, CMP, CMPI, NEG, ABS, MSTEP, MUL. -/

namespace Sys2Proof.Machine

/-- ADD (R171). -/
def execAdd (a b : RegNum) (s : State) : Result := outcome do
  let x ← s.readReg a
  let y ← s.readReg b
  s.retireReg a (x + y) (addFlags x y)

/-- ADDI (R172). -/
def execAddi (a : RegNum) (imm5 : BitVec 5) (s : State) : Result := outcome do
  let x ← s.readReg a
  s.retireReg a (x + s.immK imm5) (addFlags x (s.immK imm5))

/-- SUB (R173). -/
def execSub (a b : RegNum) (s : State) : Result := outcome do
  let x ← s.readReg a
  let y ← s.readReg b
  s.retireReg a (x - y) (subFlags x y)

/-- SUBI (R174). -/
def execSubi (a : RegNum) (imm5 : BitVec 5) (s : State) : Result := outcome do
  let x ← s.readReg a
  s.retireReg a (x - s.immK imm5) (subFlags x (s.immK imm5))

/-- CMP (R175): the result is discarded. -/
def execCmp (a b : RegNum) (s : State) : Result := outcome do
  let x ← s.readReg a
  let y ← s.readReg b
  pure (s.mapStatus (subFlags x y)).retire

/-- CMPI (R176). -/
def execCmpi (a : RegNum) (imm5 : BitVec 5) (s : State) : Result := outcome do
  let x ← s.readReg a
  pure (s.mapStatus (subFlags x (s.immK imm5))).retire

/-- NEG (R177): no flag. -/
def execNeg (a : RegNum) (s : State) : Result := outcome do
  let x ← s.readReg a
  s.retireReg a (0#32 - x) keepFlags

/-- ABS (R178): no flag; 0x80000000 stays. -/
def execAbs (a : RegNum) (s : State) : Result := outcome do
  let x ← s.readReg a
  s.retireReg a (if x.msb then 0#32 - x else x) keepFlags

/-- MSTEP (R179): `%r0` doubled, plus `RA` where bit 31 of `%r0` was one. -/
def execMstep (a : RegNum) (s : State) : Result := outcome do
  let t ← s.readReg regZero
  let x ← s.readReg a
  s.retireReg regZero (if t.msb then (t <<< 1) + x else t <<< 1) keepFlags

/-- MUL (R180): the low half-words of `%r0` and `RA`, unsigned. -/
def execMul (a : RegNum) (s : State) : Result := outcome do
  let t ← s.readReg regZero
  let x ← s.readReg a
  s.retireReg regZero ((t &&& 0x0000FFFF#32) * (x &&& 0x0000FFFF#32)) keepFlags

end Sys2Proof.Machine
end

