-- ==== Sys2Proof/Machine/Custom.lean ====
section
/-! DEFINITION. Custom instructions (43_custom_instructions.md): USR0 to USR4, over the uninterpreted `Config.usrOp`. -/

namespace Sys2Proof.Machine

/-- What USR<i> computes (R155): `usrOp[i]`, or a refusal where the machine was generated without it. -/
def State.custom (s : State) (i : Fin 5) (x y : Word) : Except Stop Word :=
  if i ∈ s.platform.usrConfigured then .ok (Config.usrOp i x y)
  else .error (.refusal .customInstructionNotConfigured)

/-- USR<i> on `RA` and `%r0` (R157 to R160): the shared operation of USR1 to USR4. -/
def State.customWithZero (s : State) (i : Fin 5) (a : RegNum) : Except Stop State := do
  let x ← s.readReg a
  let y ← s.readReg regZero
  let v ← s.custom i x y
  s.retireReg a v keepFlags

/-- USR0 (R156). -/
def execUsr0 (a b : RegNum) (s : State) : Result := outcome do
  let x ← s.readReg a
  let y ← s.readReg b
  let v ← s.custom 0 x y
  s.retireReg a v keepFlags

/-- USR1 (R157). -/
def execUsr1 (a : RegNum) (s : State) : Result := outcome (s.customWithZero 1 a)

/-- USR2 (R158). -/
def execUsr2 (a : RegNum) (s : State) : Result := outcome (s.customWithZero 2 a)

/-- USR3 (R159). -/
def execUsr3 (a : RegNum) (s : State) : Result := outcome (s.customWithZero 3 a)

/-- USR4 (R160). -/
def execUsr4 (a : RegNum) (s : State) : Result := outcome (s.customWithZero 4 a)

end Sys2Proof.Machine
end

