-- ==== Sys2Proof/Machine/Extract.lean ====
section
/-! DEFINITION. Extract, sign-extend, swap and fill (47_extract_extend_fill.md): EXT8D, EXT8S, EXT16D, EXT16S, SEXT8,
SEXT16, SWAP, FILL8, FILL16. -/

namespace Sys2Proof.Machine

/-- EXT8D (R203). -/
def execExt8d (a b : RegNum) (s : State) : Result := outcome do
  let x ← s.readReg a
  let y ← s.readReg b
  s.retireReg a ((byteLane (laneOf y) x).zeroExtend 32) keepFlags

/-- EXT8S (R204). -/
def execExt8s (a : RegNum) (imm2u : BitVec 2) (s : State) : Result := outcome do
  let x ← s.readReg a
  s.retireReg a ((byteLane imm2u x).zeroExtend 32) keepFlags

/-- EXT16D (R205). -/
def execExt16d (a b : RegNum) (s : State) : Result := outcome do
  let x ← s.readReg a
  let y ← s.readReg b
  s.retireReg a ((halfLane (halfLaneOf y) x).zeroExtend 32) keepFlags

/-- EXT16S (R206). -/
def execExt16s (a : RegNum) (imm1u : BitVec 1) (s : State) : Result := outcome do
  let x ← s.readReg a
  s.retireReg a ((halfLane imm1u x).zeroExtend 32) keepFlags

/-- SEXT8 (R207). -/
def execSext8 (a : RegNum) (s : State) : Result := outcome do
  let x ← s.readReg a
  s.retireReg a ((byteLane 0 x).signExtend 32) keepFlags

/-- SEXT16 (R208). -/
def execSext16 (a : RegNum) (s : State) : Result := outcome do
  let x ← s.readReg a
  s.retireReg a ((halfLane 0 x).signExtend 32) keepFlags

/-- SWAP (R209). -/
def execSwap (a : RegNum) (s : State) : Result := outcome do
  let x ← s.readReg a
  s.retireReg a (halfLane 0 x ++ halfLane 1 x) keepFlags

/-- FILL8 (R210): the result is in `%r0`. -/
def execFill8 (a : RegNum) (s : State) : Result := outcome do
  let x ← s.readReg a
  s.retireReg regZero (byteLane 0 x ++ byteLane 0 x ++ byteLane 0 x ++ byteLane 0 x) keepFlags

/-- FILL16 (R211): the result is in `%r0`. -/
def execFill16 (a : RegNum) (s : State) : Result := outcome do
  let x ← s.readReg a
  s.retireReg regZero (halfLane 0 x ++ halfLane 0 x) keepFlags

end Sys2Proof.Machine
end

