-- ==== Sys2Proof/Machine/LoadStore.lean ====
section
/-! DEFINITION. Load and store (48_load_store.md): LD, ST, LDP, STP, LDS, STS, ST8D, ST8S, ST16D, ST16S, STS8S, STS16S. -/

namespace Sys2Proof.Machine

/-- LD (R216). -/
def execLd (a b : RegNum) (s : State) : Result := outcome do
  let base ← s.readReg b
  let v ← s.loadWord (base + s.offsetK)
  v.after.retireReg a v.value keepFlags

/-- ST (R217). -/
def execSt (a b : RegNum) (s : State) : Result := outcome do
  let base ← s.readReg b
  let v ← s.readReg a
  let t ← s.storeWord (base + s.offsetK) v
  pure t.retire

/-- LDP (R218). -/
def execLdp (a : RegNum) (p : BitVec 2) (imm5 : BitVec 5) (s : State) : Result := outcome do
  let base ← s.readReg (regPointer p)
  let v ← s.loadWord (base + s.offsetKImm imm5)
  v.after.retireReg a v.value keepFlags

/-- STP (R219). -/
def execStp (a : RegNum) (p : BitVec 2) (imm5 : BitVec 5) (s : State) : Result := outcome do
  let base ← s.readReg (regPointer p)
  let v ← s.readReg a
  let t ← s.storeWord (base + s.offsetKImm imm5) v
  pure t.retire

/-- LDS (R220). -/
def execLds (a : RegNum) (imm8 : BitVec 8) (s : State) : Result := outcome do
  let sp ← s.readReg regSp
  let v ← s.loadWord (stackWordAddr sp imm8)
  v.after.retireReg a v.value keepFlags

/-- STS (R221). -/
def execSts (a : RegNum) (imm8 : BitVec 8) (s : State) : Result := outcome do
  let sp ← s.readReg regSp
  let v ← s.readReg a
  let t ← s.storeWord (stackWordAddr sp imm8) v
  pure t.retire

/-- ST8D (R223): the lane is the low two bits of `RA`. -/
def execSt8d (a : RegNum) (s : State) : Result := outcome do
  let base ← s.readReg a
  let v ← s.readReg regZero
  let t ← s.storeByteLane (base + s.offsetK) (laneOf base) v
  pure t.retire

/-- ST8S (R224): the lane is in the instruction. -/
def execSt8s (a : RegNum) (imm2u : BitVec 2) (s : State) : Result := outcome do
  let base ← s.readReg a
  let v ← s.readReg regZero
  let t ← s.storeByteLane (base + s.offsetK) imm2u v
  pure t.retire

/-- ST16D (R225): the lane is bit 1 of `RA`. -/
def execSt16d (a : RegNum) (s : State) : Result := outcome do
  let base ← s.readReg a
  let v ← s.readReg regZero
  let t ← s.storeHalfLane (base + s.offsetK) (halfLaneOf base) v
  pure t.retire

/-- ST16S (R226): the lane is in the instruction. -/
def execSt16s (a : RegNum) (imm1u : BitVec 1) (s : State) : Result := outcome do
  let base ← s.readReg a
  let v ← s.readReg regZero
  let t ← s.storeHalfLane (base + s.offsetK) imm1u v
  pure t.retire

/-- STS8S (R227): the lane is the low two bits of the immediate, whatever `%sp` is. -/
def execSts8s (imm10 : BitVec 10) (s : State) : Result := outcome do
  let sp ← s.readReg regSp
  let v ← s.readReg regZero
  let t ← s.storeByteLane (stackByteAddr sp imm10) (imm10.extractLsb' 0 2) v
  pure t.retire

/-- STS16S (R228): the lane is bit 0 of the immediate, whatever `%sp` is. -/
def execSts16s (imm9 : BitVec 9) (s : State) : Result := outcome do
  let sp ← s.readReg regSp
  let v ← s.readReg regZero
  let t ← s.storeHalfLane (stackHalfAddr sp imm9) (imm9.extractLsb' 0 1) v
  pure t.retire

end Sys2Proof.Machine
end

