-- ==== Sys2Proof/Machine/Logic.lean ====
section
/-! DEFINITION. Logic, shift and rotate (46_logic_shift_rotate.md): AND, ANDN, OR, XOR, NOT, LSL, LSLI, LSR, LSRI, ASR,
ASRI, RLC, RRC. -/

namespace Sys2Proof.Machine

/-- AND (R186). -/
def execAnd (a : RegNum) (b : BitVec 5) (s : State) : Result := outcome do
  let x ← s.readReg a
  let y ← s.logicOperand b
  s.retireReg a (x &&& y) (logicFlags (x &&& y))

/-- ANDN (R187). -/
def execAndn (a : RegNum) (b : BitVec 5) (s : State) : Result := outcome do
  let x ← s.readReg a
  let y ← s.logicOperand b
  s.retireReg a (x &&& ~~~y) (logicFlags (x &&& ~~~y))

/-- OR (R188). -/
def execOr (a : RegNum) (b : BitVec 5) (s : State) : Result := outcome do
  let x ← s.readReg a
  let y ← s.logicOperand b
  s.retireReg a (x ||| y) (logicFlags (x ||| y))

/-- XOR (R189). -/
def execXor (a : RegNum) (b : BitVec 5) (s : State) : Result := outcome do
  let x ← s.readReg a
  let y ← s.logicOperand b
  s.retireReg a (x ^^^ y) (logicFlags (x ^^^ y))

/-- NOT (R190): no flag. -/
def execNot (a : RegNum) (s : State) : Result := outcome do
  let x ← s.readReg a
  s.retireReg a (~~~x) keepFlags

/-- LSL (R191): zero fill from the right. -/
def execLsl (a b : RegNum) (s : State) : Result := outcome do
  let x ← s.readReg a
  let y ← s.readReg b
  s.retireReg a (x <<< shiftCount y) keepFlags

/-- LSLI (R192). -/
def execLsli (a : RegNum) (imm5 : BitVec 5) (s : State) : Result := outcome do
  let x ← s.readReg a
  s.retireReg a (x <<< imm5.toNat) keepFlags

/-- LSR (R193): zero fill from the left. -/
def execLsr (a b : RegNum) (s : State) : Result := outcome do
  let x ← s.readReg a
  let y ← s.readReg b
  s.retireReg a (x >>> shiftCount y) keepFlags

/-- LSRI (R194). -/
def execLsri (a : RegNum) (imm5 : BitVec 5) (s : State) : Result := outcome do
  let x ← s.readReg a
  s.retireReg a (x >>> imm5.toNat) keepFlags

/-- ASR (R195): fill from the left with bit 31. -/
def execAsr (a b : RegNum) (s : State) : Result := outcome do
  let x ← s.readReg a
  let y ← s.readReg b
  s.retireReg a (x.sshiftRight (shiftCount y)) keepFlags

/-- ASRI (R196). -/
def execAsri (a : RegNum) (imm5 : BitVec 5) (s : State) : Result := outcome do
  let x ← s.readReg a
  s.retireReg a (x.sshiftRight imm5.toNat) keepFlags

/-- RLC (R197): the 33 bits `C : RA` rotate left by one; the old C enters at bit 0 (log 22). -/
def execRlc (a : RegNum) (s : State) : Result := outcome do
  let x ← s.readReg a
  s.retireReg a (x.extractLsb' 0 31 ++ BitVec.ofBool s.status.c) (carryFlag x.msb)

/-- RRC (R198): the 33 bits `C : RA` rotate right by one; the old C enters at bit 31 (log 22). -/
def execRrc (a : RegNum) (s : State) : Result := outcome do
  let x ← s.readReg a
  s.retireReg a (BitVec.ofBool s.status.c ++ x.extractLsb' 1 31) (carryFlag (x.getLsbD 0))

end Sys2Proof.Machine
end

