-- ==== Sys2Proof/Machine/Moves.lean ====
section
/-! DEFINITION. Prefix and moves (44_prefix_and_moves.md): PFX, MOV, MOVI, MOVHI, BGEN. -/

namespace Sys2Proof.Machine

/-- PFX (R162): `K ← IMM11` and `pfx` for the next instruction; the one instruction whose end does not clear them. -/
def execPfx (imm11 : BitVec 11) (s : State) : Result :=
  outcome (.ok { s.retire with k := imm11, pfx := true })

/-- MOV (R163). -/
def execMov (a b : RegNum) (s : State) : Result := outcome do
  let y ← s.readReg b
  s.retireReg a y keepFlags

/-- MOVI (R164). -/
def execMovi (a : RegNum) (imm5 : BitVec 5) (s : State) : Result := outcome do
  s.retireReg a (s.immK imm5) keepFlags

/-- MOVHI (R165): the low half-word of `RA` stays. -/
def execMovhi (a : RegNum) (imm5 : BitVec 5) (s : State) : Result := outcome do
  let x ← s.readReg a
  s.retireReg a (s.imm16 imm5 ++ halfLane 0 x) keepFlags

/-- BGEN (R166). -/
def execBgen (a : RegNum) (imm5 : BitVec 5) (s : State) : Result := outcome do
  s.retireReg a (1#32 <<< imm5.toNat) keepFlags

end Sys2Proof.Machine
end

