-- ==== Sys2Proof/Machine/Skip.lean ====
section
/-! DEFINITION. Conditional skip (42_conditional_skip.md): SKP0, SKP1, SKPRZ, SKPRNZ, SKPS. -/

namespace Sys2Proof.Machine

/-- The end of a skip instruction (R145): where its condition holds the next instruction is cancelled. -/
def State.retireSkip (s : State) (holds : Bool) : State := { s.retire with skip := s.skip || holds }

/-- SKP0 (R146). -/
def execSkp0 (a : RegNum) (imm5 : BitVec 5) (s : State) : Result := outcome do
  let x ← s.readReg a
  pure (s.retireSkip (!x.getLsbD imm5.toNat))

/-- SKP1 (R147). -/
def execSkp1 (a : RegNum) (imm5 : BitVec 5) (s : State) : Result := outcome do
  let x ← s.readReg a
  pure (s.retireSkip (x.getLsbD imm5.toNat))

/-- SKPRZ (R148). -/
def execSkprz (a : RegNum) (s : State) : Result := outcome do
  let x ← s.readReg a
  pure (s.retireSkip (x == 0#32))

/-- SKPRNZ (R151). -/
def execSkprnz (a : RegNum) (s : State) : Result := outcome do
  let x ← s.readReg a
  pure (s.retireSkip (x != 0#32))

/-- SKPS (R149): a condition number that names no condition, 14 and 15 in the table of R150, is refused. -/
def execSkps (imm4w : BitVec 4) (s : State) : Result :=
  outcome (match conditionOf s.platform.conditions imm4w with
    | some test => .ok (s.retireSkip (test.holds s.status))
    | none => .error (.refusal .unknownCondition))

end Sys2Proof.Machine
end

