-- ==== Sys2Proof/Machine/Transfer.lean ====
section
/-! DEFINITION. Control transfer (40_control_transfer.md): BR, BSR, JMP, CALL, each delayed by one slot; and the exception
instructions (41_trap_tret.md): TRAP, TRET, which load `pc` at once. -/

namespace Sys2Proof.Machine

/-- BR (R131). -/
def execBr (imm11 : BitVec 11) (s : State) : Result :=
  outcome (.ok (s.retireTo (s.branchTarget imm11)))

/-- BSR (R132): the link is written before the slot executes. -/
def execBsr (imm11 : BitVec 11) (s : State) : Result := outcome do
  let t ← s.writeReg regLink s.link
  pure (t.retireTo (s.branchTarget imm11))

/-- JMP (R133): bit 31 of the register is lost in the doubling. -/
def execJmp (a : RegNum) (s : State) : Result := outcome do
  let x ← s.readReg a
  pure (s.retireTo (x * 2#32))

/-- CALL (R134): the register is read before the link is written. -/
def execCall (a : RegNum) (s : State) : Result := outcome do
  let x ← s.readReg a
  let t ← s.writeReg regLink s.link
  pure (t.retireTo (x * 2#32))

/-- TRAP (R140): always taken, whatever IE and IPRI are (R255). -/
def execTrap (imm6v : BitVec 6) (s : State) : Result :=
  outcome (s.exceptionEntry imm6v (s.pc + 2#32) true)

/-- TRET (R141): the register is read in the handler's window. -/
def execTret (a : RegNum) (s : State) : Result := outcome do
  let x ← s.readReg a
  pure (s.exceptionReturn x)

end Sys2Proof.Machine
end

