-- ==== Sys2Proof/Machine/Unused.lean ====
section
/-! DEFINITION. The twelve rows of the opcode table that are no instruction (30_encoding.md R103): a word of such a row is
refused, `refuse(UnusedEncoding)`; the source has no illegal-instruction exception (60_exceptions.md R252). -/

namespace Sys2Proof.Machine

/-- `refuse(UnusedEncoding)` (R103). -/
def refuseUnused : Result := outcome (.error (.refusal .unusedEncoding))

/-- Words 011101010xxxxxxx (R103). -/
def execUnused011101010 (_x : BitVec 7) (_s : State) : Result := refuseUnused

/-- Words 011101011xxxxxxx (R103). -/
def execUnused011101011 (_x : BitVec 7) (_s : State) : Result := refuseUnused

/-- Words 011101110xxxxxxx (R103). -/
def execUnlisted011101110 (_x : BitVec 7) (_s : State) : Result := refuseUnused

/-- Words 011101111xxxxxxx (R103). -/
def execUnlisted011101111 (_x : BitVec 7) (_s : State) : Result := refuseUnused

/-- Words 01111010xxxxxxxx (R103). -/
def execUnlisted01111010 (_x : BitVec 8) (_s : State) : Result := refuseUnused

/-- Words 01111011xxxxxxxx (R103). -/
def execUnlisted01111011 (_x : BitVec 8) (_s : State) : Result := refuseUnused

/-- Words 01111100111xxxxx (R103). -/
def execUnused01111100111 (_x : BitVec 5) (_s : State) : Result := refuseUnused

/-- Words 01111101111xxxxx (R103). -/
def execUnused01111101111 (_x : BitVec 5) (_s : State) : Result := refuseUnused

/-- Words 01111111011xxxxx (R103). -/
def execUnused01111111011 (_x : BitVec 5) (_s : State) : Result := refuseUnused

/-- Words 01111111100xxxxx (R103). -/
def execUnused01111111100 (_x : BitVec 5) (_s : State) : Result := refuseUnused

/-- Words 01111111101xxxxx (R103). -/
def execUnused01111111101 (_x : BitVec 5) (_s : State) : Result := refuseUnused

/-- Words 10010xxxxxxxxxxx (R103). -/
def execUnlisted10010 (_x : BitVec 11) (_s : State) : Result := refuseUnused

end Sys2Proof.Machine
end

