-- ==== Sys2Proof/Machine/Window.lean ====
section
/-! DEFINITION. Register window and control registers (49_window_control_registers.md): SAVE, RESTORE, RDCTL, WRCTL. -/

namespace Sys2Proof.Machine

/-- The window moved by `d` (R24): CWP plus `d`, modulo 2^CWP_BITS. -/
def State.moveWindow (s : State) (d : BitVec 5) : State :=
  s.mapStatus fun t => { t with cwp := t.cwp + d }

/-- SAVE (R236): CWP minus 1, `%sp` of the new window from its `%fp`, and underflow, exception 1, where the old CWP was
LO_LIMIT and the exception is enabled; the entry does not decrement CWP again. At CWP 0 the new window is 31, outside every
file of fewer than 32 windows: the fault of R24. DESIGN CHOICE (log 30): in a file of 32 windows it completes there. -/
def execSave (imm8v : BitVec 8) (s : State) : Result := outcome do
  let moved := s.moveWindow (-1#5)
  let fp ← moved.readReg regFp
  let framed ← moved.writeReg regSp (fp - imm8v.zeroExtend 32 * 4#32)
  if s.status.cwp = s.loLimit ∧ s.accepts 1#6 then
    framed.exceptionEntry 1#6 s.nxt false
  else
    pure framed.retire

/-- RESTORE (R238): CWP plus 1, and overflow, exception 2, where the old CWP was HI_LIMIT and the exception is enabled;
the entry decrements CWP again. -/
def execRestore (s : State) : Result := outcome do
  let moved := s.moveWindow 1#5
  if s.status.cwp = s.hiLimit ∧ s.accepts 2#6 then
    moved.exceptionEntry 2#6 s.nxt true
  else
    pure moved.retire

/-- RDCTL (R239): `RA ← CTL[K]`. -/
def execRdctl (a : RegNum) (s : State) : Result := outcome do
  let v ← s.readControl
  s.retireReg a v keepFlags

/-- WRCTL (R240): `CTL[K] ← RA`; a write of `%ctl0` leaves the hazard of R46. -/
def execWrctl (a : RegNum) (s : State) : Result := outcome do
  let x ← s.readReg a
  match controlOf s.platform.controlMap s.k with
  | some .status => pure { s.retire with status := Status.unpack x s.platform.statusLayout, ctl0Hazard := true }
  | some .istatus => pure { s.retire with istatus := Status.unpack x s.platform.statusLayout }
  | some .wvalid => pure { s.retire with
      hiLimit := x.extractLsb' s.platform.controlMap.hiLimit 5
      loLimit := x.extractLsb' s.platform.controlMap.loLimit 5 }
  | none => .error (.refusal .unknownControlRegister)

end Sys2Proof.Machine
end

