-- ==== Sys2Proof/Machine/Cycle.lean ====
section
/-! DEFINITION. The execution cycle (10_state.md R47): interrupt recognition, fetch and decode, cancellation, the two
software-visible hazards, and the instruction's own meaning. `Machine/Step.lean` only calls this file. -/

namespace Sys2Proof.Machine

/-- The hidden state is idle: no pending transfer, skip, prefix or WRCTL hazard (R52, R256). -/
def State.idle (s : State) : Bool := s.btarget.isNone && !s.skip && !s.pfx && !s.ctl0Hazard

/-- The number of the interrupt taken at this boundary, if one is (R47 (a), R256): the hidden state is idle, a request is
present and enabled, and the environment lets it be recognised now. -/
def State.interruptTaken (s : State) : Option (BitVec 6) :=
  match s.env with
  | [] => none
  | e :: _ => if s.idle && e.irq && e.recognise && s.accepts e.irqNumber then some e.irqNumber else none

/-- The input of this step consumed. -/
def State.dropInput (s : State) : State := { s with env := s.env.tail }

/-- The input of this step consumed and the instruction counted (R305). -/
def State.begin (s : State) : State := { s.dropInput with now := s.now + 1 }

/-- What fetch and decode answer: the word at `pc`, its instruction, and the state after the access. -/
structure Decoded where
  word : HalfWord
  instr : Instr
  after : State
deriving DecidableEq, Repr

/-- `MemRead(pc, 2)` as an instruction word, and what it decodes to; a word of no instruction is refused (R47 (b), R103). -/
def State.fetchDecode (s : State) : Except Stop Decoded := do
  let f ← s.fetchBytes
  match f.bytes with
  | [lo, hi] =>
    match decodeBytes [lo, hi] with
    | .ok (i, _) =>
      if i.isListed then pure { word := wordOfBytes lo hi, instr := i, after := f.after }
      else .error (.refusal .unusedEncoding)
    | .error _ => .error (.refusal .unusedEncoding)
  | _ => .error (.refusal .unusedEncoding)

/-- PFX, the one instruction a running skip passes over and goes on (R43). -/
def isPfx : Instr → Bool
  | .pfx _ => true
  | .add _ _ | .addi _ _ | .sub _ _ | .subi _ _ | .cmp _ _ | .cmpi _ _
  | .lsl _ _ | .lsli _ _ | .lsr _ _ | .lsri _ _ | .asr _ _ | .asri _ _
  | .mov _ _ | .movi _ _ | .and _ _ | .andn _ _ | .or _ _ | .xor _ _
  | .bgen _ _ | .ext8d _ _ | .skp0 _ _ | .skp1 _ _ | .ld _ _ | .st _ _
  | .sts8s _ | .sts16s _ | .ext16d _ _ | .movhi _ _ | .usr0 _ _ | .ext8s _ _
  | .ext16s _ _ | .st8s _ _ | .st16s _ _ | .save _ | .trap _ | .not _
  | .neg _ | .abs _ | .sext8 _ | .sext16 _ | .rlc _ | .rrc _
  | .swap _ | .usr1 _ | .usr2 _ | .usr3 _ | .usr4 _ | .restore
  | .tret _ | .st8d _ | .st16d _ | .fill8 _ | .fill16 _ | .mstep _
  | .mul _ | .skprz _ | .skps _ | .wrctl _ | .rdctl _ | .skprnz _
  | .jmp _ | .call _ | .br _ | .bsr _ | .stp _ _ _ | .ldp _ _ _
  | .sts _ _ | .lds _ _ | .unused011101010 _ | .unused011101011 _ | .unlisted011101110 _ | .unlisted011101111 _
  | .unlisted01111010 _ | .unlisted01111011 _ | .unused01111100111 _ | .unused01111101111 _ | .unused01111111011 _ | .unused01111111100 _
  | .unused01111111101 _ | .unlisted10010 _ => false

/-- `ForbiddenInSlot` (R299): every control transfer, every skip, and the prefix. -/
def forbiddenInSlot : Instr → Bool
  | .skp0 _ _ | .skp1 _ _ | .trap _ | .tret _ | .skprz _ | .skps _
  | .skprnz _ | .jmp _ | .call _ | .br _ | .bsr _ | .pfx _ => true
  | .add _ _ | .addi _ _ | .sub _ _ | .subi _ _ | .cmp _ _ | .cmpi _ _
  | .lsl _ _ | .lsli _ _ | .lsr _ _ | .lsri _ _ | .asr _ _ | .asri _ _
  | .mov _ _ | .movi _ _ | .and _ _ | .andn _ _ | .or _ _ | .xor _ _
  | .bgen _ _ | .ext8d _ _ | .ld _ _ | .st _ _ | .sts8s _ | .sts16s _
  | .ext16d _ _ | .movhi _ _ | .usr0 _ _ | .ext8s _ _ | .ext16s _ _ | .st8s _ _
  | .st16s _ _ | .save _ | .not _ | .neg _ | .abs _ | .sext8 _
  | .sext16 _ | .rlc _ | .rrc _ | .swap _ | .usr1 _ | .usr2 _
  | .usr3 _ | .usr4 _ | .restore | .st8d _ | .st16d _ | .fill8 _
  | .fill16 _ | .mstep _ | .mul _ | .wrctl _ | .rdctl _ | .stp _ _ _
  | .ldp _ _ _ | .sts _ _ | .lds _ _ | .unused011101010 _ | .unused011101011 _ | .unlisted011101110 _
  | .unlisted011101111 _ | .unlisted01111010 _ | .unlisted01111011 _ | .unused01111100111 _ | .unused01111101111 _ | .unused01111111011 _
  | .unused01111111100 _ | .unused01111111101 _ | .unlisted10010 _ => false

/-- The word of NOP, `MOV %g0, %g0` (R167). -/
def nopWord : HalfWord := 0x3000#16

/-- A cancelled instruction (R43, R47 (c)): nothing but the advance; `skip` goes on over a PFX. -/
def State.cancel (s : State) (i : Instr) : State := { s.retire with skip := isPfx i }

/-- The hazards a program must avoid (R47 (d)): a forbidden instruction in a delay slot (R299), and after WRCTL to `%ctl0`
anything but NOP (R46). -/
def State.hazard (s : State) (w : HalfWord) (i : Instr) : Option Fault :=
  if s.btarget.isSome && forbiddenInSlot i then some .forbiddenDelaySlot
  else if s.ctl0Hazard && w != nopWord then some .nopRequiredAfterWrctlStatus
  else none

/-- A decoded instruction, cancelled or executed (R47 (c) to (f)). -/
def Decoded.run (d : Decoded) : Result :=
  if d.after.skip then .next (d.after.cancel d.instr)
  else
    match d.after.hazard d.word d.instr with
    | some f => .fault f
    | none => exec d.instr d.after

/-- One instruction, fetched, decoded, and cancelled or executed (R47 (b) to (f)). -/
def State.runInstruction (s : State) : Result :=
  match s.fetchDecode with
  | .error e => outcome (.error e)
  | .ok d => d.run

/-- One step of the core (R47). -/
def stepCore (s : State) : Result :=
  match s.interruptTaken with
  | some n => outcome (s.dropInput.exceptionEntry n s.pc true)
  | none => s.begin.runInstruction

end Sys2Proof.Machine
end

