-- ==== Sys2Proof/Machine/Step.lean ====
section
/-! DEFINITION. The step of the machine, and the placing of one instruction where the step fetches next. -/

namespace Sys2Proof.Machine

/-- One step of the core (10_state.md R47). -/
def step (s : State) : Host.Outcome State Fault Refusal := stepCore s

/-- `s` with the instruction word `w` of `nbits` bits stored where `step` fetches its next instruction, from outside the
machine: no store of the program, so its address leaves the log of stores (log 28). -/
def State.withFetchWord (s : State) (nbits w : Nat) : State :=
  s.place s.fetchAddr (bytesOfWord (BitVec.ofNat 16 (w % 2 ^ nbits)))

end Sys2Proof.Machine
end

