-- ==== Sys2Proof/Safety.lean ====
section
/-! DEFINITION. The terms claims are stated in: what a step that completes is, which accesses the platform admits, the
frames (what an instruction leaves as it was), and the invariant of the machine. -/

namespace Sys2Proof.Machine

/-- The step answers a next state: no fault and no refusal. -/
def State.Completes (s : State) : Prop := ∃ t, step s = .next t

/-- A run of `n` steps without fault or refusal. -/
def SafeRun (n : Nat) (s : State) : Prop := ∃ t, Host.Core.run Sys2Proof.core n s = .next t

/-- A register file the spec allows: `16 * (NWIN + 1)` registers (R23), at least the 128 of the smallest file (R22), at most
the 32 windows a 5-bit CWP can name (log 5, 30). -/
def State.FileOk (s : State) : Prop := s.rf.length = 16 * (s.nwin + 1) ∧ 128 ≤ s.rf.length ∧ s.nwin ≤ 32

/-- The word at `a` is memory the platform lets the core read (R71). -/
def State.Readable (s : State) (a : Nat) : Prop := s.kindAt a = some .ram ∨ s.kindAt a = some .rom

/-- The word at `a` is memory the platform lets the core write (R71). -/
def State.Writable (s : State) (a : Nat) : Prop := s.kindAt a = some .ram

/-- A control map with three different numbers (R32, R35, R36). -/
def ControlMap.Distinct (m : ControlMap) : Prop := m.istatus ≠ 0#11 ∧ m.wvalid ≠ 0#11 ∧ m.wvalid ≠ m.istatus

/-- The 16-bit value `K : IMM5` as a number (R96). -/
def State.immNat (s : State) (imm5 : BitVec 5) : Nat := s.k.toNat * 32 + imm5.toNat

/-! ## Frames -/

/-- What no instruction changes: the platform, the inputs to come, the count of instructions (which the step advances). -/
structure SameInputs (s t : State) : Prop where
  platform : t.platform = s.platform
  env : t.env = s.env
  now : t.now = s.now

/-- Nothing outside the core has changed: `SameInputs`, and no device has seen an access. -/
structure SameOutside (s t : State) : Prop where
  inputs : SameInputs s t
  bus : t.bus = s.bus

/-- ISTATUS and the window limits as they were. -/
structure SameControl (s t : State) : Prop where
  istatus : t.istatus = s.istatus
  loLimit : t.loLimit = s.loLimit
  hiLimit : t.hiLimit = s.hiLimit

/-- Every byte of memory, and the log of stores, as it was. -/
structure SameMemory (s t : State) : Prop where
  bytes : ∀ a, t.byteAt a = s.byteAt a
  stores : t.stores = s.stores

/-- Every physical register but the one `%r i` names as it was. -/
structure SameFileBut (s t : State) (i : RegNum) : Prop where
  length : t.rf.length = s.rf.length
  others : ∀ j, s.physIndex i ≠ some j → t.rf[j]? = s.rf[j]?

/-- The end of an ordinary instruction: `pc` at the next instruction in program order, nothing pending (R47 (f)). -/
structure Retired (s t : State) : Prop where
  pc : t.pc = s.nxt
  btarget : t.btarget = none
  k : t.k = 0#11
  pfx : t.pfx = false
  ctl0Hazard : t.ctl0Hazard = false

/-- The end of a delayed transfer: the delay slot is next, `target` is pending (R45). -/
structure Transferred (s t : State) (target : Word) : Prop where
  pc : t.pc = s.nxt
  btarget : t.btarget = some target
  k : t.k = 0#11
  pfx : t.pfx = false
  ctl0Hazard : t.ctl0Hazard = false
  skip : t.skip = s.skip

/-- `%r i` holds `v`, STATUS may have changed, and nothing else has but the advance to the next instruction. -/
structure WritesOnly (s t : State) (i : RegNum) (v : Word) : Prop where
  value : t.readReg i = .ok v
  file : SameFileBut s t i
  control : SameControl s t
  memory : SameMemory s t
  outside : SameOutside s t
  retired : Retired s t
  skip : t.skip = s.skip

/-- No register, no memory, no control register but perhaps STATUS has changed. -/
structure WritesNothing (s t : State) : Prop where
  file : t.rf = s.rf
  control : SameControl s t
  memory : SameMemory s t
  outside : SameOutside s t

/-- Lanes `first` to `first + count - 1` of the word at `w` hold those lanes of `v`, and nothing else has changed but the
advance to the next instruction and the log of what was stored. -/
structure StoresLanes (s t : State) (w first count : Nat) (v : Word) : Prop where
  stored : ∀ k, first ≤ k → k < first + count → t.byteAt (w + k) = BitVec.ofNat 8 (v.toNat / 256 ^ k)
  logged : ∀ k, first ≤ k → k < first + count → Assoc.find (w + k) t.stores = some s.now
  others : ∀ a, a < w + first ∨ w + first + count ≤ a →
    t.byteAt a = s.byteAt a ∧ Assoc.find a t.stores = Assoc.find a s.stores
  file : t.rf = s.rf
  status : t.status = s.status
  control : SameControl s t
  outside : SameOutside s t
  retired : Retired s t
  skip : t.skip = s.skip

/-- A device has answered a word read at `w`, its answer is in `%r i`, and nothing else has changed but the advance to the
next instruction (R68, R69). -/
structure ReadsDevice (s t : State) (i : RegNum) (w : Nat) : Prop where
  value : t.readReg i = .ok (wordFrom (Config.deviceByte t.bus) w)
  bus : t.bus = { now := s.now, addr := w, size := 4, stored := none } :: s.bus
  file : SameFileBut s t i
  status : t.status = s.status
  control : SameControl s t
  memory : SameMemory s t
  inputs : SameInputs s t
  retired : Retired s t
  skip : t.skip = s.skip

/-- A device has seen a write of lanes `first` to `first + count - 1` of `v` to the word at `w`, which is logged as stored
to, and nothing else has changed but the advance to the next instruction (R68, R69). -/
structure WritesDevice (s t : State) (w first count : Nat) (v : Word) : Prop where
  bus : ∃ vs, t.bus = { now := s.now, addr := w + first, size := count, stored := some vs } :: s.bus ∧ vs.length = count ∧
    ∀ k, k < count → vs[k]? = some (BitVec.ofNat 8 (v.toNat / 256 ^ (first + k)))
  bytes : ∀ a, t.byteAt a = s.byteAt a
  logged : ∀ k, first ≤ k → k < first + count → Assoc.find (w + k) t.stores = some s.now
  others : ∀ a, a < w + first ∨ w + first + count ≤ a → Assoc.find a t.stores = Assoc.find a s.stores
  file : t.rf = s.rf
  status : t.status = s.status
  control : SameControl s t
  inputs : SameInputs s t
  retired : Retired s t
  skip : t.skip = s.skip

/-- `lo` and `hi` are the two bytes at the fetch address of `s`, and `u` is the state after the step has fetched them: they
are what memory holds there (R64), or what a device answers to one read of two bytes (R68, R69). -/
structure FetchesAtPc (s u : State) (lo hi : Byte) : Prop where
  memory : s.Readable s.fetchAddr → u = s.begin ∧ lo = s.byteAt s.fetchAddr ∧ hi = s.byteAt (s.fetchAddr + 1)
  device : ∀ w, s.kindAt s.fetchAddr = some (.device true w) →
    u = { s.begin with bus := { now := s.now + 1, addr := s.fetchAddr, size := 2, stored := none } :: s.bus } ∧
    lo = Config.deviceByte u.bus s.fetchAddr ∧ hi = Config.deviceByte u.bus (s.fetchAddr + 1)

/-- Exception `n` has been entered (R262): `saved` is the STATUS copied into ISTATUS, `cwp` the handler's window, `vector`
what the read of the vector answered, `ret` the address of the next instruction not executed, `file` the register file
before the link was written. -/
structure Entered (s t : State) (file : List Word) (saved : Status) (cwp : BitVec 5) (n : BitVec 6) (vector : Loaded)
    (ret : Word) : Prop where
  istatus : t.istatus = saved
  status : t.status = { saved with ie := false, ipri := n, cwp := cwp }
  link : t.readReg 15#5 = .ok (BitVec.ofNat 32 (ret.toNat / 2))
  others : t.rf.length = file.length ∧ ∀ j, t.physIndex 15#5 ≠ some j → t.rf[j]? = file[j]?
  pc : t.pc = BitVec.ofNat 32 (2 * vector.value.toNat)
  idle : t.btarget = none ∧ t.skip = false ∧ t.k = 0#11 ∧ t.pfx = false ∧ t.ctl0Hazard = false
  limits : t.loLimit = s.loLimit ∧ t.hiLimit = s.hiLimit
  memory : SameMemory s t
  inputs : SameInputs s t
  bus : t.bus = vector.after.bus

/-! ## Flags, said through the exact results -/

/-- The flags of an addition: the carry is the lost 2^32, the overflow a signed sum that does not fit (R170). -/
def SumFlags (s t : State) (x y : Word) : Prop :=
  t.status = { s.status with
    n := decide (2147483648 ≤ (x.toNat + y.toNat) % 4294967296)
    v := decide ((x + y).toInt ≠ x.toInt + y.toInt)
    c := decide (4294967296 ≤ x.toNat + y.toNat)
    z := decide ((x.toNat + y.toNat) % 4294967296 = 0) }

/-- The flags of a subtraction: the carry is the borrow, the overflow a signed difference that does not fit (R170). -/
def DifferenceFlags (s t : State) (x y : Word) : Prop :=
  t.status = { s.status with
    n := decide ((x - y).toInt < 0)
    v := decide ((x - y).toInt ≠ x.toInt - y.toInt)
    c := decide (x.toNat < y.toNat)
    z := decide (x = y) }

/-- The flags of a logic result: N and Z alone (R185). -/
def LogicFlags (s t : State) (r : Word) : Prop :=
  t.status = { s.status with n := decide (2147483648 ≤ r.toNat), z := decide (r.toNat = 0) }

/-! ## The invariant -/

/-- What every step keeps: memory and the log of stores in canonical form, a register file the spec allows, even code
addresses (R28), no K without PFX (R41, R42), and at most one of the four kinds of pending state (R52). -/
structure State.Inv (s : State) : Prop where
  memory : Memory.wf s.mem = true
  stores : Assoc.rising s.stores = true
  file : s.FileOk
  pcEven : s.pc.getLsbD 0 = false
  targetEven : ∀ t, s.btarget = some t → t.getLsbD 0 = false
  kIdle : s.pfx = false → s.k = 0#11
  targetAlone : s.btarget ≠ none → s.skip = false ∧ s.pfx = false ∧ s.ctl0Hazard = false
  skipAlone : s.skip = true → s.pfx = false ∧ s.ctl0Hazard = false
  pfxAlone : s.pfx = true → s.ctl0Hazard = false

end Sys2Proof.Machine
end

