-- ==== Sys2Proof/Certificates/Slice0/Obligations.lean ====
section
/-! DEFINITION. The statements for the provers, from the numbered rules of spec/. A statement whose docstring names a log
entry or a decision of the spec rests on it and claims no rule for that clause. -/

open Sys2Proof Sys2Proof.Machine

/-! ## Encoding -/

/-- Decoding the word of any instruction gives it back, every operand at every value (formats R92, opcode map R101). -/
def Obligations.DecodeInvertsEncode : Prop := ∀ i : Instr, decodeWord (encode i) = .ok i

/-- A word that decodes is the word of what it decodes to: no two words decode to one instruction, no bit is dropped. -/
def Obligations.EncodeInvertsDecode : Prop := ∀ (w : HalfWord) (i : Instr), decodeWord w = .ok i → encode i = w

/-- R101: a word is a row's instruction exactly when `iw & mask = match`, for each of the 69 rows. -/
def Obligations.OpcodeMapSelectsInstruction : Prop :=
  opcodeMap.length = 69 ∧
    ∀ r ∈ opcodeMap, ∀ w : HalfWord,
      w &&& r.mask = r.pattern ↔ ∃ i, decodeWord w = .ok i ∧ i.isListed = true ∧ i.mnemonic = r.mnemonic

/-- Words written out bit by bit from the spec's encodings (R131, R140, R149, R171, R206, R218, R228, R238) decode to the
instructions they stand for. -/
def Obligations.SampleWordsDecode : Prop :=
  decodeWord 0b0000000001000001#16 = .ok (.add 1#5 2#5) ∧
  decodeWord 0b1000010000000000#16 = .ok (.br 0x400#11) ∧
  decodeWord 0b1011100010100001#16 = .ok (.ldp 1#5 2#2 5#5) ∧
  decodeWord 0b0111010011000001#16 = .ok (.ext16s 1#5 1#1) ∧
  decodeWord 0b0110010000001010#16 = .ok (.sts16s 5#9) ∧
  decodeWord 0b0111100100000101#16 = .ok (.trap 5#6) ∧
  decodeWord 0b0111111011100010#16 = .ok (.skps 2#4) ∧
  decodeWord 0b0111110110100000#16 = .ok .restore ∧
  decodeWord 0b0111110110100001#16 = .error .mustBeZero

/-- A word of no row of the opcode map is refused wherever it is fetched (the choice of R95 and R103, decisions D13, D14;
log 18, 25). -/
def Obligations.WordsOfNoRowAreRefused : Prop :=
  ∀ (s u : State) (lo hi : Byte), s.interruptTaken = none → s.begin.fetchBytes = .ok { bytes := [lo, hi], after := u } →
    (∀ r ∈ opcodeMap, wordOfBytes lo hi &&& r.mask ≠ r.pattern) → step s = .refused .unusedEncoding

/-- The twelve rows that are no instruction are refused in every state (R103, decision D13; log 25). -/
def Obligations.UnusedRowsAreRefused : Prop :=
  ∀ (s : State) (x5 : BitVec 5) (x7 : BitVec 7) (x8 : BitVec 8) (x11 : BitVec 11),
    exec (.unused011101010 x7) s = .refused .unusedEncoding ∧ exec (.unused011101011 x7) s = .refused .unusedEncoding ∧
    exec (.unlisted011101110 x7) s = .refused .unusedEncoding ∧ exec (.unlisted011101111 x7) s = .refused .unusedEncoding ∧
    exec (.unlisted01111010 x8) s = .refused .unusedEncoding ∧ exec (.unlisted01111011 x8) s = .refused .unusedEncoding ∧
    exec (.unused01111100111 x5) s = .refused .unusedEncoding ∧ exec (.unused01111101111 x5) s = .refused .unusedEncoding ∧
    exec (.unused01111111011 x5) s = .refused .unusedEncoding ∧ exec (.unused01111111100 x5) s = .refused .unusedEncoding ∧
    exec (.unused01111111101 x5) s = .refused .unusedEncoding ∧ exec (.unlisted10010 x11) s = .refused .unusedEncoding

/-! ## The execution cycle -/

/-- The step runs the instruction whose bytes lie at `pc` (R47, R64). The input of this step is consumed and the instruction
counted; the bytes fetched are those of half-word lane `pc[1]` of the aligned word, for an even `pc` the two from `pc` on
(decision D2, log 20; ADDR_BITS bits of the address, decision D3, log 19), as memory holds them or a device answers them
(log 12). A fetch the platform answers, of bytes nothing has stored to, completes. Where no interrupt is taken
(MaskedRequestLeavesNoTrace says when), nothing is being skipped and no hazard stands in the way, the step is `exec` of
the instruction decoded, from the state after the fetch. -/
def Obligations.StepRunsDecodedInstruction : Prop :=
  ∀ s : State,
    s.begin = { s with env := s.env.tail, now := s.now + 1 } ∧
    s.fetchAddr = s.pc.toNat / 4 * 4 % 2 ^ s.platform.addrBits + 2 * (s.pc.toNat / 2 % 2) ∧
    (s.pc.getLsbD 0 = false → 2 ≤ s.platform.addrBits → s.fetchAddr = s.pc.toNat % 2 ^ s.platform.addrBits) ∧
    (∀ u lo hi, s.begin.fetchBytes = .ok { bytes := [lo, hi], after := u } → FetchesAtPc s u lo hi) ∧
    (∀ p, s.readPort s.fetchAddr = .ok p → Assoc.find s.fetchAddr s.stores = none →
      Assoc.find (s.fetchAddr + 1) s.stores = none →
      ∃ u lo hi, s.begin.fetchBytes = .ok { bytes := [lo, hi], after := u }) ∧
    (∀ (u : State) (lo hi : Byte) (i : Instr), s.interruptTaken = none →
      s.begin.fetchBytes = .ok { bytes := [lo, hi], after := u } → decodeWord (wordOfBytes lo hi) = .ok i →
      i.isListed = true → s.skip = false → (s.btarget = none ∨ forbiddenInSlot i = false) →
      (s.ctl0Hazard = false ∨ wordOfBytes lo hi = 0x3000#16) →
      step s = exec i u)

/-- A cancelled instruction changes nothing but the advance; a cancelled PFX leaves the skip in force, any other ends it
(R43, decision D12). -/
def Obligations.SkippedInstructionIsCancelled : Prop :=
  ∀ (s u : State) (lo hi : Byte) (i : Instr), s.interruptTaken = none →
    s.begin.fetchBytes = .ok { bytes := [lo, hi], after := u } → decodeWord (wordOfBytes lo hi) = .ok i →
    i.isListed = true → s.skip = true →
    ∃ t, step s = .next t ∧ WritesNothing u t ∧ Retired s t ∧ t.status = s.status ∧
      (t.skip = true ↔ ∃ imm11, i = .pfx imm11)

/-- Between instructions, with nothing pending, a request that is enabled, below the threshold and recognised now is
entered with the address of the instruction not yet executed (R256, decisions D11, D20; log 16; the entry is R262's). At
window 0 the entry faults (R270, decision D17; log 27), into a window the file does not have it faults (R24, log 5), and a
vector that cannot be read stops it (R71, log 12). -/
def Obligations.InterruptIsEntered : Prop :=
  ∀ (s : State) (e : IrqInput) (rest : List IrqInput), s.env = e :: rest → s.btarget = none → s.skip = false →
    s.pfx = false → s.ctl0Hazard = false → e.irq = true → e.recognise = true → s.status.ie = true →
    e.irqNumber.toNat < s.status.ipri.toNat →
    (s.status.cwp = 0#5 → step s = .fault .exceptionAtWindowZero) ∧
    (s.status.cwp ≠ 0#5 → s.nwin ≤ (s.status.cwp - 1#5).toNat → step s = .fault .windowOutOfFile) ∧
    (s.status.cwp ≠ 0#5 → s.status.cwp.toNat ≤ s.nwin → s.FileOk →
      (∀ h, s.loadWord (s.vectorAddr e.irqNumber) = .ok h →
        ∃ t, step s = .next t ∧
          Entered { s with env := rest } t s.rf s.status (s.status.cwp - 1#5) e.irqNumber h s.pc) ∧
      (∀ stop, s.loadWord (s.vectorAddr e.irqNumber) = .error stop → step s = outcome (.error stop)))

/-- When no interrupt is taken, and that this leaves no trace: the step is that of no request at all. So it is with a request
that is withdrawn (R258), masked by IE or IPRI (R251), or not recognised at this boundary (R256; decision D20, log 16);
inside a unit that is not split (a pending transfer, skip, PFX or WRCTL hazard), which is the spec's own decision D11; and
where the queue of inputs, which is the model's (log 16), is empty. -/
def Obligations.MaskedRequestLeavesNoTrace : Prop :=
  ∀ (s : State) (e : IrqInput) (rest : List IrqInput),
    ((e.irq = false ∨ e.recognise = false ∨ s.status.ie = false ∨ s.status.ipri.toNat ≤ e.irqNumber.toNat ∨
        s.btarget ≠ none ∨ s.skip = true ∨ s.pfx = true ∨ s.ctl0Hazard = true) →
      { s with env := e :: rest }.interruptTaken = none ∧
      step { s with env := e :: rest } =
        step { s with env := { irq := false, irqNumber := 0#6, recognise := false } :: rest }) ∧
    { s with env := [] }.interruptTaken = none ∧
    step { s with env := [] } = step { s with env := [{ irq := false, irqNumber := 0#6, recognise := false }] }

/-- The software-visible hazards stop the step: a transfer, a skip or PFX in a delay slot (R299, decision D15), and anything
but NOP after a WRCTL to STATUS (R46, R301, decision D16; log 26). -/
def Obligations.HazardsStopTheStep : Prop :=
  ∀ (s u : State) (lo hi : Byte) (i : Instr), s.interruptTaken = none →
    s.begin.fetchBytes = .ok { bytes := [lo, hi], after := u } → decodeWord (wordOfBytes lo hi) = .ok i →
    i.isListed = true → s.skip = false →
    (s.btarget ≠ none →
      i.mnemonic ∈ ["BR", "BSR", "JMP", "CALL", "SKP0", "SKP1", "SKPRZ", "SKPRNZ", "SKPS", "PFX", "TRAP", "TRET"] →
      step s = .fault .forbiddenDelaySlot) ∧
    (s.btarget = none → s.ctl0Hazard = true → i ≠ .mov 0#5 0#5 → step s = .fault .nopRequiredAfterWrctlStatus)

/-- A fetch from a location stored to since reset faults, in a machine without FETCH_AHEAD and in one whose FETCH_AHEAD has
not passed since; with FETCH_AHEAD passed for both bytes the new bytes are fetched (R77, decision D23; log 15). -/
def Obligations.FetchAfterStore : Prop :=
  ∀ (s : State) (p : Port) (a at0 : Nat), s.readPort s.fetchAddr = .ok p → (a = s.fetchAddr ∨ a = s.fetchAddr + 1) →
    Assoc.find a s.stores = some at0 →
    (s.platform.fetchAhead = none → s.fetchBytes = .error (.fault .fetchAfterStoreUnspecified)) ∧
    (∀ d, s.platform.fetchAhead = some d → s.now - at0 ≤ d →
      s.fetchBytes = .error (.fault .fetchAfterStoreUnspecified)) ∧
    (∀ d, s.platform.fetchAhead = some d →
      (∀ b c, b = s.fetchAddr ∨ b = s.fetchAddr + 1 → Assoc.find b s.stores = some c → d < s.now - c) →
      ∃ u, u = s.accessed p s.fetchAddr 2 none ∧
        s.fetchBytes = .ok { bytes := [u.answer p s.fetchAddr, u.answer p (s.fetchAddr + 1)], after := u })

/-! ## Registers -/

/-- The window mapping (R23, decision D10; log 5): globals are shared, the other registers lie at `8 + 16*CWP`, so the in
registers of a window are the out registers of the next; outside the file a windowed register faults (R24). -/
def Obligations.RegisterWindowMapping : Prop :=
  ∀ (s : State) (i : RegNum), s.FileOk →
    (i.toNat < 8 → ∃ v, s.rf[i.toNat]? = some v ∧ s.readReg i = .ok v) ∧
    (8 ≤ i.toNat → s.status.cwp.toNat < s.nwin →
      ∃ v, s.rf[8 + 16 * s.status.cwp.toNat + (i.toNat - 8)]? = some v ∧ s.readReg i = .ok v) ∧
    (8 ≤ i.toNat → s.nwin ≤ s.status.cwp.toNat → s.readReg i = .error (.fault .windowOutOfFile)) ∧
    (24 ≤ i.toNat → s.status.cwp.toNat + 1 < s.nwin →
      (s.moveWindow 1#5).readReg (i - 16#5) = s.readReg i)

/-- A windowed register operand in a window the file does not have stops every instruction that reads it, and every one
that writes it and has met no other stop before (R24, decision D10; log 5; the stack and pointer forms by log 8; the
order of stops is log 23). So do a SAVE and a TRAP into such a window. -/
def Obligations.RegistersOutsideFileStop : Prop :=
  ∀ (s : State) (a b : RegNum) (p : BitVec 2) (imm1u : BitVec 1) (imm2u : BitVec 2) (imm5 : BitVec 5) (imm6v : BitVec 6)
    (imm8 : BitVec 8) (imm9 : BitVec 9) (imm10 : BitVec 10) (imm11 : BitVec 11),
    (s.nwin ≤ (s.status.cwp - 1#5).toNat →
      exec (.save imm8) s = .fault .windowOutOfFile ∧
      (s.status.cwp ≠ 0#5 → exec (.trap imm6v) s = .fault .windowOutOfFile)) ∧
    (8 ≤ a.toNat → s.nwin ≤ s.status.cwp.toNat →
      ((s.k = 0#11 ∨ s.k = s.platform.controlMap.istatus ∨ s.k = s.platform.controlMap.wvalid) →
        exec (.rdctl a) s = .fault .windowOutOfFile) ∧
      (∀ base r, s.readReg b = .ok base → s.loadWord (base + s.offsetK) = .ok r →
        exec (.ld a b) s = .fault .windowOutOfFile) ∧
      (s.pfx = false → ∀ i ∈ [Instr.and b a, .andn b a, .or b a, .xor b a], exec i s = .fault .windowOutOfFile) ∧
      ∀ i ∈ [Instr.add a b, .add b a, .addi a imm5, .sub a b, .sub b a, .subi a imm5, .cmp a b, .cmp b a, .cmpi a imm5,
          .neg a, .abs a, .mstep a, .mul a, .and a b, .andn a b, .or a b, .xor a b, .not a, .lsl a b, .lsl b a, .lsli a imm5,
          .lsr a b, .lsr b a, .lsri a imm5, .asr a b, .asr b a, .asri a imm5, .rlc a, .rrc a, .mov a b, .mov b a,
          .movi a imm5, .movhi a imm5, .bgen a imm5, .ext8d a b, .ext8d b a, .ext8s a imm2u, .ext16d a b, .ext16d b a,
          .ext16s a imm1u, .sext8 a, .sext16 a, .swap a, .fill8 a, .fill16 a, .ld b a, .st a b, .st b a, .ldp b p imm5,
          .stp b p imm5, .lds b imm8, .sts b imm8, .st8d a, .st8s a imm2u, .st16d a, .st16s a imm1u, .sts8s imm10,
          .sts16s imm9, .bsr imm11, .jmp a, .call a, .call b, .tret a, .skp0 a imm5, .skp1 a imm5, .skprz a, .skprnz a,
          .usr0 a b, .usr0 b a, .usr1 a, .usr2 a, .usr3 a, .usr4 a, .wrctl a],
        exec i s = .fault .windowOutOfFile)

/-! ## Arithmetic and compare -/

/-- ADD and ADDI (R171, R172): the sum modulo 2^32, the four flags by the formulas of R170, which the spec takes from general
knowledge (decision D6; log 9). -/
def Obligations.AddResult : Prop :=
  ∀ (s : State) (a b : RegNum) (imm5 : BitVec 5) (x : Word), s.readReg a = .ok x →
    (∀ y, s.readReg b = .ok y →
      ∃ t, exec (.add a b) s = .next t ∧ WritesOnly s t a (x + y) ∧ SumFlags s t x y) ∧
    (∃ t, exec (.addi a imm5) s = .next t ∧ WritesOnly s t a (x + BitVec.ofNat 32 (s.immNat imm5)) ∧
      SumFlags s t x (BitVec.ofNat 32 (s.immNat imm5)))

/-- SUB and SUBI (R173, R174): the difference modulo 2^32, the flags by R170 (decision D6; log 9). -/
def Obligations.SubtractResult : Prop :=
  ∀ (s : State) (a b : RegNum) (imm5 : BitVec 5) (x : Word), s.readReg a = .ok x →
    (∀ y, s.readReg b = .ok y →
      ∃ t, exec (.sub a b) s = .next t ∧ WritesOnly s t a (x - y) ∧ DifferenceFlags s t x y) ∧
    (∃ t, exec (.subi a imm5) s = .next t ∧ WritesOnly s t a (x - BitVec.ofNat 32 (s.immNat imm5)) ∧
      DifferenceFlags s t x (BitVec.ofNat 32 (s.immNat imm5)))

/-- CMP and CMPI (R175, R176): the flags of the difference by R170 (decision D6; log 9), and no register. -/
def Obligations.CompareResult : Prop :=
  ∀ (s : State) (a b : RegNum) (imm5 : BitVec 5) (x : Word), s.readReg a = .ok x →
    (∀ y, s.readReg b = .ok y →
      ∃ t, exec (.cmp a b) s = .next t ∧ WritesNothing s t ∧ Retired s t ∧ t.skip = s.skip ∧ DifferenceFlags s t x y) ∧
    (∃ t, exec (.cmpi a imm5) s = .next t ∧ WritesNothing s t ∧ Retired s t ∧ t.skip = s.skip ∧
      DifferenceFlags s t x (BitVec.ofNat 32 (s.immNat imm5)))

/-- NEG and ABS (R177, R178): the negative and the absolute value modulo 2^32, 0x80000000 staying itself (decision D30), and
no flag (decision D29; log 24). -/
def Obligations.NegateAndAbsoluteResult : Prop :=
  ∀ (s : State) (a : RegNum) (x : Word), s.readReg a = .ok x →
    (∃ t, exec (.neg a) s = .next t ∧ WritesOnly s t a (BitVec.ofInt 32 (-x.toInt)) ∧ t.status = s.status) ∧
    (∃ t, exec (.abs a) s = .next t ∧ WritesOnly s t a (BitVec.ofNat 32 x.toInt.natAbs) ∧ t.status = s.status)

/-- MSTEP and MUL (R179, R180), with their encodings: the result is in `%r0`, no flag changes. -/
def Obligations.MultiplyResult : Prop :=
  ∀ (s : State) (a : RegNum) (z x : Word),
    decodeWord (0b01111110100#11 ++ a) = .ok (.mstep a) ∧ decodeWord (0b01111110101#11 ++ a) = .ok (.mul a) ∧
    (s.readReg 0#5 = .ok z → s.readReg a = .ok x →
      (∃ t, exec (.mstep a) s = .next t ∧ t.status = s.status ∧
        WritesOnly s t 0#5 (BitVec.ofNat 32 (2 * z.toNat + if 2147483648 ≤ z.toNat then x.toNat else 0))) ∧
      (∃ t, exec (.mul a) s = .next t ∧ t.status = s.status ∧
        WritesOnly s t 0#5 (BitVec.ofNat 32 (z.toNat % 65536 * (x.toNat % 65536)))))

/-! ## Logic, shift, rotate -/

/-- AND, ANDN, OR, XOR (R186 to R189): the second operand is `%rB`, or after PFX the zero-extended `K : IMM5`, with IMM5 in the
`B` field (R97); N and Z by R185 (decision D6), V and C unchanged. -/
def Obligations.LogicResult : Prop :=
  ∀ (s : State) (a : RegNum) (b : BitVec 5) (x y : Word), s.readReg a = .ok x →
    ((s.pfx = false ∧ s.readReg b = .ok y) ∨ (s.pfx = true ∧ y = BitVec.ofNat 32 (s.immNat b))) →
    (∃ t, exec (.and a b) s = .next t ∧ WritesOnly s t a (x &&& y) ∧ LogicFlags s t (x &&& y)) ∧
    (∃ t, exec (.andn a b) s = .next t ∧ WritesOnly s t a (x &&& ~~~y) ∧ LogicFlags s t (x &&& ~~~y)) ∧
    (∃ t, exec (.or a b) s = .next t ∧ WritesOnly s t a (x ||| y) ∧ LogicFlags s t (x ||| y)) ∧
    (∃ t, exec (.xor a b) s = .next t ∧ WritesOnly s t a (x ^^^ y) ∧ LogicFlags s t (x ^^^ y))

/-- LSL, LSR, ASR (R191, R193, R195), with their encodings: shifts by the low five bits of `%rB`, as multiplication and division
by a power of two; ASR divides the signed value, rounding down; no flag. -/
def Obligations.ShiftByRegisterResult : Prop :=
  ∀ (s : State) (a b : RegNum) (x y : Word),
    decodeWord (0b000110#6 ++ b ++ a) = .ok (.lsl a b) ∧ decodeWord (0b001000#6 ++ b ++ a) = .ok (.lsr a b) ∧
    decodeWord (0b001010#6 ++ b ++ a) = .ok (.asr a b) ∧
    (s.readReg a = .ok x → s.readReg b = .ok y →
      (∃ t, exec (.lsl a b) s = .next t ∧ t.status = s.status ∧
        WritesOnly s t a (BitVec.ofNat 32 (x.toNat * 2 ^ (y.toNat % 32)))) ∧
      (∃ t, exec (.lsr a b) s = .next t ∧ t.status = s.status ∧
        WritesOnly s t a (BitVec.ofNat 32 (x.toNat / 2 ^ (y.toNat % 32)))) ∧
      (∃ t, exec (.asr a b) s = .next t ∧ t.status = s.status ∧
        WritesOnly s t a (BitVec.ofInt 32 (x.toInt / 2 ^ (y.toNat % 32)))))

/-- LSLI, LSRI, ASRI (R192, R194, R196), with their encodings: shifts by IMM5, whatever K is; no flag. -/
def Obligations.ShiftByImmediateResult : Prop :=
  ∀ (s : State) (a : RegNum) (imm5 : BitVec 5) (x : Word),
    decodeWord (0b000111#6 ++ imm5 ++ a) = .ok (.lsli a imm5) ∧ decodeWord (0b001001#6 ++ imm5 ++ a) = .ok (.lsri a imm5) ∧
    decodeWord (0b001011#6 ++ imm5 ++ a) = .ok (.asri a imm5) ∧
    (s.readReg a = .ok x →
      (∃ t, exec (.lsli a imm5) s = .next t ∧ t.status = s.status ∧
        WritesOnly s t a (BitVec.ofNat 32 (x.toNat * 2 ^ imm5.toNat))) ∧
      (∃ t, exec (.lsri a imm5) s = .next t ∧ t.status = s.status ∧
        WritesOnly s t a (BitVec.ofNat 32 (x.toNat / 2 ^ imm5.toNat))) ∧
      (∃ t, exec (.asri a imm5) s = .next t ∧ t.status = s.status ∧
        WritesOnly s t a (BitVec.ofInt 32 (x.toInt / 2 ^ imm5.toNat))))

/-- RLC and RRC (R197, R198; decision D25, log 22): the 33 bits `C : RA` rotate by one; N, V and Z stay. -/
def Obligations.RotateThroughCarryResult : Prop :=
  ∀ (s : State) (a : RegNum) (x : Word), s.readReg a = .ok x →
    (∃ t, exec (.rlc a) s = .next t ∧ WritesOnly s t a (BitVec.ofNat 32 (2 * x.toNat + s.status.c.toNat)) ∧
      t.status = { s.status with c := decide (2147483648 ≤ x.toNat) }) ∧
    (∃ t, exec (.rrc a) s = .next t ∧ WritesOnly s t a (BitVec.ofNat 32 (2147483648 * s.status.c.toNat + x.toNat / 2)) ∧
      t.status = { s.status with c := decide (x.toNat % 2 = 1) })

/-! ## Prefix and moves -/

/-- MOV, MOVI, MOVHI, BGEN (R163 to R166), with their encodings; no flag. -/
def Obligations.MoveResult : Prop :=
  ∀ (s : State) (a b : RegNum) (imm5 : BitVec 5) (x y : Word),
    decodeWord (0b001100#6 ++ b ++ a) = .ok (.mov a b) ∧ decodeWord (0b001101#6 ++ imm5 ++ a) = .ok (.movi a imm5) ∧
    decodeWord (0b011011#6 ++ imm5 ++ a) = .ok (.movhi a imm5) ∧ decodeWord (0b010010#6 ++ imm5 ++ a) = .ok (.bgen a imm5) ∧
    (s.readReg a = .ok x → s.readReg b = .ok y →
      (∃ t, exec (.mov a b) s = .next t ∧ t.status = s.status ∧ WritesOnly s t a y) ∧
      (∃ t, exec (.movi a imm5) s = .next t ∧ t.status = s.status ∧ WritesOnly s t a (BitVec.ofNat 32 (s.immNat imm5))) ∧
      (∃ t, exec (.movhi a imm5) s = .next t ∧ t.status = s.status ∧
        WritesOnly s t a (BitVec.ofNat 32 (s.immNat imm5 * 65536 + x.toNat % 65536))) ∧
      (∃ t, exec (.bgen a imm5) s = .next t ∧ t.status = s.status ∧ WritesOnly s t a (BitVec.ofNat 32 (2 ^ imm5.toNat))))

/-- PFX (R162): K and `pfx` are set, and nothing else but the advance. -/
def Obligations.PrefixSetsK : Prop :=
  ∀ (s : State) (imm11 : BitVec 11),
    ∃ t, exec (.pfx imm11) s = .next t ∧ WritesNothing s t ∧ t.status = s.status ∧ t.skip = s.skip ∧ t.pc = s.nxt ∧
      t.btarget = none ∧ t.ctl0Hazard = false ∧ t.k = imm11 ∧ t.pfx = true

/-- K comes from PFX alone and lasts for one instruction (R41, R42): after any instruction that completes, `pfx` says whether
it was PFX, and K is that PFX's immediate or zero. -/
def Obligations.OnlyPrefixLeavesK : Prop :=
  ∀ (i : Instr) (s t : State), exec i s = .next t →
    (t.pfx = true ∧ i = .pfx t.k) ∨ (t.pfx = false ∧ t.k = 0#11 ∧ ∀ imm11, i ≠ .pfx imm11)

/-! ## Extract, extend, fill -/

/-- EXT8D, EXT8S, EXT16D, EXT16S (R203 to R206), with their encodings (bit 5 of EXT16S must be 0): the selected lane of `%rA`, zero-extended; no flag. -/
def Obligations.ExtractResult : Prop :=
  ∀ (s : State) (a b : RegNum) (imm2u : BitVec 2) (imm1u : BitVec 1) (x y : Word),
    decodeWord (0b010011#6 ++ b ++ a) = .ok (.ext8d a b) ∧
    decodeWord (0b011101000#9 ++ imm2u ++ a) = .ok (.ext8s a imm2u) ∧
    decodeWord (0b011010#6 ++ b ++ a) = .ok (.ext16d a b) ∧
    decodeWord (0b011101001#9 ++ imm1u ++ 0#1 ++ a) = .ok (.ext16s a imm1u) ∧
    (∀ i, decodeWord (0b011101001#9 ++ imm1u ++ 1#1 ++ a) ≠ .ok i) ∧
    (s.readReg a = .ok x → s.readReg b = .ok y →
      (∃ t, exec (.ext8d a b) s = .next t ∧ t.status = s.status ∧
        WritesOnly s t a (BitVec.ofNat 32 (x.toNat / 256 ^ (y.toNat % 4) % 256))) ∧
      (∃ t, exec (.ext8s a imm2u) s = .next t ∧ t.status = s.status ∧
        WritesOnly s t a (BitVec.ofNat 32 (x.toNat / 256 ^ imm2u.toNat % 256))) ∧
      (∃ t, exec (.ext16d a b) s = .next t ∧ t.status = s.status ∧
        WritesOnly s t a (BitVec.ofNat 32 (x.toNat / 65536 ^ (y.toNat / 2 % 2) % 65536))) ∧
      (∃ t, exec (.ext16s a imm1u) s = .next t ∧ t.status = s.status ∧
        WritesOnly s t a (BitVec.ofNat 32 (x.toNat / 65536 ^ imm1u.toNat % 65536))))

/-- SEXT8, SEXT16, SWAP (R207 to R209) and NOT (R190), with their encodings; no flag. -/
def Obligations.ExtendSwapAndComplementResult : Prop :=
  ∀ (s : State) (a : RegNum) (x : Word),
    decodeWord (0b01111100011#11 ++ a) = .ok (.sext8 a) ∧ decodeWord (0b01111100100#11 ++ a) = .ok (.sext16 a) ∧
    decodeWord (0b01111101000#11 ++ a) = .ok (.swap a) ∧ decodeWord (0b01111100000#11 ++ a) = .ok (.not a) ∧
    (s.readReg a = .ok x →
      (∃ t, exec (.sext8 a) s = .next t ∧ t.status = s.status ∧
        WritesOnly s t a (BitVec.ofInt 32 (Int.bmod x.toNat 256))) ∧
      (∃ t, exec (.sext16 a) s = .next t ∧ t.status = s.status ∧
        WritesOnly s t a (BitVec.ofInt 32 (Int.bmod x.toNat 65536))) ∧
      (∃ t, exec (.swap a) s = .next t ∧ t.status = s.status ∧
        WritesOnly s t a (BitVec.ofNat 32 (x.toNat % 65536 * 65536 + x.toNat / 65536))) ∧
      (∃ t, exec (.not a) s = .next t ∧ t.status = s.status ∧
        WritesOnly s t a (BitVec.ofNat 32 (4294967295 - x.toNat))))

/-- FILL8 and FILL16 (R210, R211), with their encodings: the low lane of `%rA` in every lane of `%r0`; no flag. -/
def Obligations.FillResult : Prop :=
  ∀ (s : State) (a : RegNum) (z x : Word),
    decodeWord (0b01111110010#11 ++ a) = .ok (.fill8 a) ∧ decodeWord (0b01111110011#11 ++ a) = .ok (.fill16 a) ∧
    (s.readReg 0#5 = .ok z → s.readReg a = .ok x →
      (∃ t, exec (.fill8 a) s = .next t ∧ t.status = s.status ∧
        WritesOnly s t 0#5 (BitVec.ofNat 32 (x.toNat % 256 * 16843009))) ∧
      (∃ t, exec (.fill16 a) s = .next t ∧ t.status = s.status ∧
        WritesOnly s t 0#5 (BitVec.ofNat 32 (x.toNat % 65536 * 65537))))

/-! ## Load and store -/

/-- R65: `align32` truncates an address to full-word alignment. -/
def Obligations.AlignTruncatesToWord : Prop :=
  ∀ x : Word, align32 x = x &&& 0xFFFFFFFC#32 ∧ (align32 x).toNat = x.toNat / 4 * 4 ∧ align32 (align32 x) = align32 x

/-- What K contributes to an operand (R98): a zero-extended immediate, a signed word offset, and without PFX (K = 0) the bare
IMM5 and no offset. -/
def Obligations.PrefixedOperandValues : Prop :=
  ∀ (s : State) (imm5 : BitVec 5),
    s.immK imm5 = BitVec.ofNat 32 (s.immNat imm5) ∧
    s.offsetK = BitVec.ofInt 32 (4 * s.k.toInt) ∧
    s.offsetKImm imm5 = BitVec.ofInt 32 (4 * (32 * s.k.toInt + imm5.toNat)) ∧
    (s.k = 0#11 → s.immK imm5 = BitVec.ofNat 32 imm5.toNat ∧ s.offsetK = 0#32 ∧
      s.offsetKImm imm5 = BitVec.ofNat 32 (4 * imm5.toNat))

/-- LD, LDS and LDP (R216, R220, R218), with their encodings: the little-endian word of memory at the aligned address, into
`%rA`; no flag, no byte of memory. The numbers of `%sp` and of the pointer registers are decisions D8, D9 (log 8). -/
def Obligations.LoadResult : Prop :=
  ∀ (s : State) (a b : RegNum) (p : BitVec 2) (imm5 : BitVec 5) (imm8 : BitVec 8) (x base : Word) (w : Nat),
    decodeWord (0b010110#6 ++ b ++ a) = .ok (.ld a b) ∧ decodeWord (0b1011#4 ++ p ++ imm5 ++ a) = .ok (.ldp a p imm5) ∧
    decodeWord (0b111#3 ++ imm8 ++ a) = .ok (.lds a imm8) ∧
    (s.readReg a = .ok x → s.Readable w →
      (s.readReg b = .ok base → w = s.wordAddr (base + s.offsetK) →
        ∃ t, exec (.ld a b) s = .next t ∧ t.status = s.status ∧ WritesOnly s t a (s.wordAt w)) ∧
      (s.readReg (BitVec.ofNat 5 (16 + p.toNat)) = .ok base → w = s.wordAddr (base + s.offsetKImm imm5) →
        ∃ t, exec (.ldp a p imm5) s = .next t ∧ t.status = s.status ∧ WritesOnly s t a (s.wordAt w)) ∧
      (s.readReg 14#5 = .ok base → w = s.wordAddr (base + BitVec.ofNat 32 (4 * imm8.toNat)) →
        ∃ t, exec (.lds a imm8) s = .next t ∧ t.status = s.status ∧ WritesOnly s t a (s.wordAt w)))

/-- Four bytes read as a word weigh by their address, the lowest least significant (R63); a word of memory is its bytes. -/
def Obligations.WordIsLittleEndian : Prop :=
  ∀ (s : State) (f : Nat → Byte) (a : Nat),
    (wordFrom f a).toNat = (f a).toNat + 256 * (f (a + 1)).toNat + 65536 * (f (a + 2)).toNat
      + 16777216 * (f (a + 3)).toNat ∧
    s.wordAt a = wordFrom s.byteAt a

/-- ST, STS and STP (R217, R221, R219), with their encodings: the four lanes of the aligned word of memory, and nothing
else. The numbers of `%sp` and of the pointer registers are decisions D8, D9 (log 8). -/
def Obligations.StoreWordResult : Prop :=
  ∀ (s : State) (a b : RegNum) (p : BitVec 2) (imm5 : BitVec 5) (imm8 : BitVec 8) (v base : Word) (w : Nat),
    decodeWord (0b010111#6 ++ b ++ a) = .ok (.st a b) ∧ decodeWord (0b1010#4 ++ p ++ imm5 ++ a) = .ok (.stp a p imm5) ∧
    decodeWord (0b110#3 ++ imm8 ++ a) = .ok (.sts a imm8) ∧
    (s.readReg a = .ok v → s.Writable w →
      (s.readReg b = .ok base → w = s.wordAddr (base + s.offsetK) →
        ∃ t, exec (.st a b) s = .next t ∧ StoresLanes s t w 0 4 v) ∧
      (s.readReg (BitVec.ofNat 5 (16 + p.toNat)) = .ok base → w = s.wordAddr (base + s.offsetKImm imm5) →
        ∃ t, exec (.stp a p imm5) s = .next t ∧ StoresLanes s t w 0 4 v) ∧
      (s.readReg 14#5 = .ok base → w = s.wordAddr (base + BitVec.ofNat 32 (4 * imm8.toNat)) →
        ∃ t, exec (.sts a imm8) s = .next t ∧ StoresLanes s t w 0 4 v))

/-- ST8D, ST8S, STS8S (R223, R224, R227), with their encodings: one byte lane of the aligned word of memory takes the
same lane of `%r0`, and nothing else changes. The number of `%sp` is decision D8 (log 8). -/
def Obligations.StoreByteResult : Prop :=
  ∀ (s : State) (a : RegNum) (imm2u : BitVec 2) (imm10 : BitVec 10) (v base : Word) (w : Nat),
    decodeWord (0b01111110000#11 ++ a) = .ok (.st8d a) ∧
    decodeWord (0b011101100#9 ++ imm2u ++ a) = .ok (.st8s a imm2u) ∧
    decodeWord (0b011000#6 ++ imm10) = .ok (.sts8s imm10) ∧
    (s.readReg 0#5 = .ok v →
      (s.readReg a = .ok base → w = s.wordAddr (base + s.offsetK) →
        (s.Writable w → ∃ t, exec (.st8d a) s = .next t ∧ StoresLanes s t w (base.toNat % 4) 1 v) ∧
        (s.Writable w → ∃ t, exec (.st8s a imm2u) s = .next t ∧ StoresLanes s t w imm2u.toNat 1 v)) ∧
      (s.readReg 14#5 = .ok base → w = s.wordAddr (base + BitVec.ofNat 32 imm10.toNat) →
        s.Writable w →
        ∃ t, exec (.sts8s imm10) s = .next t ∧ StoresLanes s t w (imm10.toNat % 4) 1 v))

/-- ST16D, ST16S, STS16S (R225, R226, R228), with their encodings: one half-word lane of the aligned word of memory takes
the same lane of `%r0`, and nothing else changes. The number of `%sp` is decision D8 (log 8). -/
def Obligations.StoreHalfResult : Prop :=
  ∀ (s : State) (a : RegNum) (imm1u : BitVec 1) (imm9 : BitVec 9) (v base : Word) (w : Nat),
    decodeWord (0b01111110001#11 ++ a) = .ok (.st16d a) ∧
    decodeWord (0b011101101#9 ++ imm1u ++ 0#1 ++ a) = .ok (.st16s a imm1u) ∧
    decodeWord (0b011001#6 ++ imm9 ++ 0#1) = .ok (.sts16s imm9) ∧
    (s.readReg 0#5 = .ok v →
      (s.readReg a = .ok base → w = s.wordAddr (base + s.offsetK) →
        (s.Writable w →
          ∃ t, exec (.st16d a) s = .next t ∧ StoresLanes s t w (2 * (base.toNat / 2 % 2)) 2 v) ∧
        (s.Writable w →
          ∃ t, exec (.st16s a imm1u) s = .next t ∧ StoresLanes s t w (2 * imm1u.toNat) 2 v)) ∧
      (s.readReg 14#5 = .ok base → w = s.wordAddr (base + BitVec.ofNat 32 (2 * imm9.toNat)) →
        s.Writable w →
        ∃ t, exec (.sts16s imm9) s = .next t ∧ StoresLanes s t w (2 * (imm9.toNat % 2)) 2 v))

/-- The byte idioms compose (R229): FILL8 then ST8D stores the low byte of a register at the byte another points to, and
that byte is the one LD and EXT8D bring back. -/
def Obligations.ByteStoreThenByteLoad : Prop :=
  ∀ (s : State) (a p c : RegNum) (v addr z x : Word), s.readReg a = .ok v → s.readReg p = .ok addr → s.readReg 0#5 = .ok z →
    s.readReg c = .ok x → p ≠ 0#5 → c ≠ p → s.Writable (s.wordAddr addr) →
    ∃ t1 t2 t3 t4, exec (.fill8 a) s = .next t1 ∧ exec (.st8d p) t1 = .next t2 ∧
      t2.byteAt (s.wordAddr addr + addr.toNat % 4) = BitVec.ofNat 8 v.toNat ∧
      exec (.ld c p) t2 = .next t3 ∧ exec (.ext8d c p) t3 = .next t4 ∧
      t4.readReg c = .ok (BitVec.ofNat 32 (v.toNat % 256))

/-- What the platform does not define stops the access (R71 and decision D24; log 12), in every form: an unmapped word, a
device that defines no such access, and for the stores a word of ROM; so does a fetch the platform does not answer. The
numbers of `%sp` and of the pointer registers are decisions D8, D9 (log 8). -/
def Obligations.UndefinedAccessesStop : Prop :=
  ∀ (s : State) (a b : RegNum) (p : BitVec 2) (imm1u : BitVec 1) (imm2u : BitVec 2) (imm5 : BitVec 5) (imm8 : BitVec 8)
    (imm9 : BitVec 9) (imm10 : BitVec 10) (z v base ptr sp : Word),
    (∀ stop, s.interruptTaken = none → s.readPort s.fetchAddr = .error stop → step s = outcome (.error stop)) ∧
    (s.readReg 0#5 = .ok z → s.readReg a = .ok v → s.readReg b = .ok base →
      s.readReg (BitVec.ofNat 5 (16 + p.toNat)) = .ok ptr → s.readReg 14#5 = .ok sp →
      (∀ r ∈ [(Instr.ld a b, base + s.offsetK), (.ldp a p imm5, ptr + s.offsetKImm imm5),
          (.lds a imm8, sp + BitVec.ofNat 32 (4 * imm8.toNat))],
        (s.kindAt (s.wordAddr r.2) = none → exec r.1 s = .fault .unmappedAddress) ∧
        (∀ w, s.kindAt (s.wordAddr r.2) = some (.device false w) → exec r.1 s = .fault .deviceAccessUndefined)) ∧
      (∀ r ∈ [(Instr.st a b, base + s.offsetK), (.stp a p imm5, ptr + s.offsetKImm imm5),
          (.sts a imm8, sp + BitVec.ofNat 32 (4 * imm8.toNat)), (.st8d b, base + s.offsetK),
          (.st8s b imm2u, base + s.offsetK), (.st16d b, base + s.offsetK), (.st16s b imm1u, base + s.offsetK),
          (.sts8s imm10, sp + BitVec.ofNat 32 imm10.toNat), (.sts16s imm9, sp + BitVec.ofNat 32 (2 * imm9.toNat))],
        (s.kindAt (s.wordAddr r.2) = none → exec r.1 s = .fault .unmappedAddress) ∧
        (s.kindAt (s.wordAddr r.2) = some .rom → exec r.1 s = .fault .storeToRom) ∧
        (∀ d, s.kindAt (s.wordAddr r.2) = some (.device d false) → exec r.1 s = .fault .deviceAccessUndefined)))

/-- Loads and stores of a device complete (R68, R69; what it answers and does is the platform's, decision D24, log 12): a
load writes the device's answer to `%rA`, a store shows it the lanes stored, each as one bus access of its width, and
nothing else changes. The numbers of `%sp` and of the pointer registers are decisions D8, D9 (log 8). -/
def Obligations.DeviceAccessResult : Prop :=
  ∀ (s : State) (a b : RegNum) (p : BitVec 2) (imm1u : BitVec 1) (imm2u : BitVec 2) (imm5 : BitVec 5) (imm8 : BitVec 8)
    (imm9 : BitVec 9) (imm10 : BitVec 10) (z v base ptr sp : Word),
    s.readReg 0#5 = .ok z → s.readReg a = .ok v → s.readReg b = .ok base →
    s.readReg (BitVec.ofNat 5 (16 + p.toNat)) = .ok ptr → s.readReg 14#5 = .ok sp →
    (∀ r ∈ [(Instr.ld a b, base + s.offsetK), (.ldp a p imm5, ptr + s.offsetKImm imm5),
        (.lds a imm8, sp + BitVec.ofNat 32 (4 * imm8.toNat))],
      ∀ w, s.kindAt (s.wordAddr r.2) = some (.device true w) →
        ∃ t, exec r.1 s = .next t ∧ ReadsDevice s t a (s.wordAddr r.2)) ∧
    (∀ r ∈ [(Instr.st a b, base + s.offsetK, 0, 4, v), (.stp a p imm5, ptr + s.offsetKImm imm5, 0, 4, v),
        (.sts a imm8, sp + BitVec.ofNat 32 (4 * imm8.toNat), 0, 4, v), (.st8d b, base + s.offsetK, base.toNat % 4, 1, z),
        (.st8s b imm2u, base + s.offsetK, imm2u.toNat, 1, z),
        (.st16d b, base + s.offsetK, 2 * (base.toNat / 2 % 2), 2, z),
        (.st16s b imm1u, base + s.offsetK, 2 * imm1u.toNat, 2, z),
        (.sts8s imm10, sp + BitVec.ofNat 32 imm10.toNat, imm10.toNat % 4, 1, z),
        (.sts16s imm9, sp + BitVec.ofNat 32 (2 * imm9.toNat), 2 * (imm9.toNat % 2), 2, z)],
      ∀ d, s.kindAt (s.wordAddr r.2.1) = some (.device d true) →
        ∃ t, exec r.1 s = .next t ∧ WritesDevice s t (s.wordAddr r.2.1) r.2.2.1 r.2.2.2.1 r.2.2.2.2)

/-- Only the stores change memory (R67): any other instruction that completes leaves every byte and the log of stores. Only
an instruction of R67's list makes a bus access that a device could see. -/
def Obligations.OnlyStoresChangeMemory : Prop :=
  ∀ (i : Instr) (s t : State), exec i s = .next t →
    (i.mnemonic ∉ ["ST", "STP", "STS", "ST8D", "ST8S", "STS8S", "ST16D", "ST16S", "STS16S"] → SameMemory s t) ∧
    (i.mnemonic ∉ ["ST", "STP", "STS", "ST8D", "ST8S", "STS8S", "ST16D", "ST16S", "STS16S", "LD", "LDP", "LDS", "TRAP",
        "SAVE", "RESTORE"] → t.bus = s.bus)

/-! ## Control transfer -/

/-- BR and BSR (R131, R132): the target is pending while the slot executes; BSR links the address after the slot, halved, in
`%o7`; nothing else changes. -/
def Obligations.BranchResult : Prop :=
  ∀ (s : State) (imm11 : BitVec 11),
    (∃ t, exec (.br imm11) s = .next t ∧ WritesNothing s t ∧ t.status = s.status ∧
      Transferred s t (BitVec.ofInt 32 (s.pc.toInt + (imm11.toInt + 1) * 2))) ∧
    (∀ x, s.readReg 15#5 = .ok x →
      ∃ t, exec (.bsr imm11) s = .next t ∧ t.readReg 15#5 = .ok (BitVec.ofNat 32 ((s.pc.toNat + 4) % 4294967296 / 2)) ∧
        SameFileBut s t 15#5 ∧ SameControl s t ∧ SameMemory s t ∧ SameOutside s t ∧ t.status = s.status ∧
        Transferred s t (BitVec.ofInt 32 (s.pc.toInt + (imm11.toInt + 1) * 2)))

/-- JMP and CALL (R133, R134): to twice the register, read before the link is written. -/
def Obligations.JumpResult : Prop :=
  ∀ (s : State) (a : RegNum) (x : Word), s.readReg a = .ok x →
    (∃ t, exec (.jmp a) s = .next t ∧ WritesNothing s t ∧ t.status = s.status ∧
      Transferred s t (BitVec.ofNat 32 (2 * x.toNat))) ∧
    (∀ y, s.readReg 15#5 = .ok y →
      ∃ t, exec (.call a) s = .next t ∧ t.readReg 15#5 = .ok (BitVec.ofNat 32 ((s.pc.toNat + 4) % 4294967296 / 2)) ∧
        SameFileBut s t 15#5 ∧ SameControl s t ∧ SameMemory s t ∧ SameOutside s t ∧ t.status = s.status ∧
        Transferred s t (BitVec.ofNat 32 (2 * x.toNat)))

/-- After the delay slot comes the target (R45, R296): an instruction allowed in a slot, executed with a target pending, goes
on at the target, or enters a window exception that returns there (decision D36); the target is then no longer pending. -/
def Obligations.SlotContinuesAtTarget : Prop :=
  ∀ (i : Instr) (s t : State) (target : Word), s.btarget = some target → forbiddenInSlot i = false → exec i s = .next t →
    t.btarget = none ∧
      (t.pc = target ∨
        ((i = .restore ∨ ∃ imm8v, i = .save imm8v) ∧ t.readReg 15#5 = .ok (BitVec.ofNat 32 (target.toNat / 2))))

/-! ## Conditional skip -/

/-- SKP0, SKP1, SKPRZ, SKPRNZ (R146 to R148, R151), with their encodings: the next instruction is to be skipped when the
condition holds; no register, no flag. -/
def Obligations.SkipResult : Prop :=
  ∀ (s : State) (a : RegNum) (imm5 : BitVec 5) (x : Word),
    decodeWord (0b010100#6 ++ imm5 ++ a) = .ok (.skp0 a imm5) ∧ decodeWord (0b010101#6 ++ imm5 ++ a) = .ok (.skp1 a imm5) ∧
    decodeWord (0b01111110110#11 ++ a) = .ok (.skprz a) ∧ decodeWord (0b01111111010#11 ++ a) = .ok (.skprnz a) ∧
    (s.readReg a = .ok x →
      (∃ t, exec (.skp0 a imm5) s = .next t ∧ WritesNothing s t ∧ Retired s t ∧ t.status = s.status ∧
        (t.skip = true ↔ s.skip = true ∨ x.toNat / 2 ^ imm5.toNat % 2 = 0)) ∧
      (∃ t, exec (.skp1 a imm5) s = .next t ∧ WritesNothing s t ∧ Retired s t ∧ t.status = s.status ∧
        (t.skip = true ↔ s.skip = true ∨ x.toNat / 2 ^ imm5.toNat % 2 = 1)) ∧
      (∃ t, exec (.skprz a) s = .next t ∧ WritesNothing s t ∧ Retired s t ∧ t.status = s.status ∧
        (t.skip = true ↔ s.skip = true ∨ x.toNat = 0)) ∧
      (∃ t, exec (.skprnz a) s = .next t ∧ WritesNothing s t ∧ Retired s t ∧ t.status = s.status ∧
        (t.skip = true ↔ s.skip = true ∨ x.toNat ≠ 0)))

/-- SKPS (R149): the test that `ccTable` gives the number decides, and a number without a test is refused. With the table of
R150, which the spec takes from general knowledge (decision D7; log 10), these are its fourteen codes and flag
expressions, each odd code the complement of the even code before it, and 14 and 15 are refused. -/
def Obligations.SkipOnConditionResult : Prop :=
  ∀ (s : State) (code : BitVec 4),
    (∀ test, conditionOf s.platform.conditions code = some test →
      ∃ t, exec (.skps code) s = .next t ∧ WritesNothing s t ∧ Retired s t ∧ t.status = s.status ∧
        t.skip = (s.skip || test.holds s.status)) ∧
    (conditionOf s.platform.conditions code = none → exec (.skps code) s = .refused .unknownCondition) ∧
    (s.platform.conditions = conditionTableDefault →
      (∀ holds : Bool,
        (code.toNat, holds) ∈ [(0, s.status.c), (1, !s.status.c), (2, s.status.z), (3, !s.status.z), (4, s.status.n),
          (5, !s.status.n), (6, !xor s.status.n s.status.v), (7, xor s.status.n s.status.v),
          (8, s.status.z || xor s.status.n s.status.v), (9, !(s.status.z || xor s.status.n s.status.v)),
          (10, s.status.v), (11, !s.status.v), (12, s.status.c || s.status.z), (13, !(s.status.c || s.status.z))] →
        ∃ t, exec (.skps code) s = .next t ∧ t.skip = (s.skip || holds)) ∧
      (14 ≤ code.toNat → exec (.skps code) s = .refused .unknownCondition))

/-! ## Custom instructions -/

/-- USR0 to USR4 (R156 to R160), with their encodings: the user operation of the two operands into `%rA`, no flag; one that is
not configured is refused (R155). -/
def Obligations.CustomResult : Prop :=
  ∀ (s : State) (a b : RegNum) (x y z : Word),
    decodeWord (0b011100#6 ++ b ++ a) = .ok (.usr0 a b) ∧ decodeWord (0b01111101001#11 ++ a) = .ok (.usr1 a) ∧
    decodeWord (0b01111101010#11 ++ a) = .ok (.usr2 a) ∧ decodeWord (0b01111101011#11 ++ a) = .ok (.usr3 a) ∧
    decodeWord (0b01111101100#11 ++ a) = .ok (.usr4 a) ∧
    (s.readReg a = .ok x → s.readReg b = .ok y → s.readReg 0#5 = .ok z →
      ∀ r ∈ [((0 : Fin 5), Instr.usr0 a b, y), (1, .usr1 a, z), (2, .usr2 a, z), (3, .usr3 a, z), (4, .usr4 a, z)],
        (r.1 ∈ s.platform.usrConfigured → ∃ t, exec r.2.1 s = .next t ∧ t.status = s.status ∧
          WritesOnly s t a (Config.usrOp r.1 x r.2.2)) ∧
        (r.1 ∉ s.platform.usrConfigured → exec r.2.1 s = .refused .customInstructionNotConfigured))

/-! ## Exceptions -/

/-- TRAP (R140, R262): always taken, into the handler's window; at window 0 the fault of R270 (decision D17; log 27), into a
window the file does not have the fault of R24 (log 5), and a vector that cannot be read stops it (R71, log 12). -/
def Obligations.TrapEntersException : Prop :=
  ∀ (s : State) (n : BitVec 6),
    (s.status.cwp = 0#5 → exec (.trap n) s = .fault .exceptionAtWindowZero) ∧
    (s.status.cwp ≠ 0#5 → s.nwin ≤ (s.status.cwp - 1#5).toNat → exec (.trap n) s = .fault .windowOutOfFile) ∧
    (s.status.cwp ≠ 0#5 → s.status.cwp.toNat ≤ s.nwin → s.FileOk →
      (∀ h, s.loadWord (s.vectorAddr n) = .ok h →
        ∃ t, exec (.trap n) s = .next t ∧ Entered s t s.rf s.status (s.status.cwp - 1#5) n h (s.pc + 2#32)) ∧
      (∀ stop, s.loadWord (s.vectorAddr n) = .error stop → exec (.trap n) s = outcome (.error stop)))

/-- The bus address of a word is the aligned address, of which ADDR_BITS bits are significant (R4, R65, decision D3, log 19),
and the vector of exception `n` is the word at `VECBASE + 4*n` (R70, R266): 64 entries of 4 bytes. A word of memory there
is what the read of the vector answers. -/
def Obligations.VectorEntryAddress : Prop :=
  ∀ (s : State) (n : BitVec 6) (x : Word),
    s.wordAddr x = x.toNat / 4 * 4 % 2 ^ s.platform.addrBits ∧
    (s.platform.vecBase.toNat % 4 = 0 → s.platform.vecBase.toNat + 256 ≤ 4294967296 →
      s.wordAddr (s.vectorAddr n) = (s.platform.vecBase.toNat + 4 * n.toNat) % 2 ^ s.platform.addrBits) ∧
    (s.Readable (s.wordAddr (s.vectorAddr n)) →
      s.loadWord (s.vectorAddr n) = .ok { value := s.wordAt (s.wordAddr (s.vectorAddr n)), after := s })

/-- TRET (R141, R271): STATUS whole from ISTATUS, `pc` twice the register, ISTATUS unchanged, no slot. -/
def Obligations.TretReturns : Prop :=
  ∀ (s : State) (a : RegNum) (x : Word), s.readReg a = .ok x →
    ∃ t, exec (.tret a) s = .next t ∧ WritesNothing s t ∧ t.status = s.istatus ∧ t.pc = BitVec.ofNat 32 (2 * x.toNat) ∧
      t.btarget = none ∧ t.k = 0#11 ∧ t.pfx = false ∧ t.ctl0Hazard = false ∧ t.skip = s.skip

/-- A handler that returns at once (R263, R264, R271): TRAP, then TRET `%o7`, resumes at the instruction after TRAP with
STATUS, the window limits, every visible register and all of memory as they were, and ISTATUS holding that STATUS. That
the handler's `%o7` is no visible register of the caller rests on the window mapping (decision D10; log 5). -/
def Obligations.TrapThenTretResumes : Prop :=
  ∀ (s : State) (n : BitVec 6) (h : Loaded), s.FileOk → s.status.cwp.toNat ≠ 0 → s.status.cwp.toNat < s.nwin →
    s.pc.getLsbD 0 = false → s.loadWord (s.vectorAddr n) = .ok h →
    ∃ t u, exec (.trap n) s = .next t ∧ exec (.tret 15#5) t = .next u ∧ u.pc = s.pc + 2#32 ∧ u.status = s.status ∧
      u.istatus = s.status ∧ (∀ i : RegNum, u.readReg i = s.readReg i) ∧ SameMemory s u ∧ u.loLimit = s.loLimit ∧
      u.hiLimit = s.hiLimit ∧ SameInputs s u ∧ u.bus = h.after.bus

/-! ## Register window and control registers -/

/-- SAVE (R236) where no exception is due: CWP minus 1, `%sp` of the new window `IMM8v` words below its `%fp`, which is the old
`%sp` unless CWP was 0. The numbers of `%sp` and `%fp` are decision D8 (log 8), the overlap of the windows D10 (log 5). That
SAVE at CWP 0 completes in a file of 32 windows is the model's choice (log 30). -/
def Obligations.SaveOpensWindow : Prop :=
  ∀ (s : State) (imm8v : BitVec 8) (fp : Word), (s.moveWindow (-1#5)).readReg 30#5 = .ok fp →
    (s.status.cwp ≠ 0#5 → ∀ sp, s.readReg 14#5 = .ok sp → fp = sp) ∧
    (s.status.cwp ≠ s.loLimit ∨ s.status.ie = false ∨ s.status.ipri.toNat ≤ 1 →
      ∃ t, exec (.save imm8v) s = .next t ∧ t.status = { s.status with cwp := s.status.cwp - 1#5 } ∧
        t.readReg 30#5 = .ok fp ∧ t.readReg 14#5 = .ok (fp - BitVec.ofNat 32 (4 * imm8v.toNat)) ∧
        SameFileBut (s.moveWindow (-1#5)) t 14#5 ∧ SameControl s t ∧ SameMemory s t ∧ SameOutside s t ∧ Retired s t ∧
        t.skip = s.skip)

/-- SAVE at LO_LIMIT with the exception enabled (R236, R252): the window is opened and `%sp` set as always, and underflow,
exception 1, is entered in that window with the next instruction as return address; ISTATUS holds the STATUS of after the
decrement (decision D39, log 27). A vector that cannot be read stops it (R71, log 12). The numbers of `%sp` and `%fp` are
decision D8 (log 8). That SAVE at CWP 0 reaches this in a file of 32 windows is the
model's choice (log 30). -/
def Obligations.SaveUnderflows : Prop :=
  ∀ (s : State) (imm8v : BitVec 8) (fp : Word) (j : Nat), (s.moveWindow (-1#5)).readReg 30#5 = .ok fp →
    s.status.cwp = s.loLimit → s.status.ie = true → 1 < s.status.ipri.toNat →
    (s.moveWindow (-1#5)).physIndex 14#5 = some j →
    (∀ h, s.loadWord (s.vectorAddr 1#6) = .ok h →
      ∃ t, exec (.save imm8v) s = .next t ∧
        Entered s t (s.rf.set j (fp - BitVec.ofNat 32 (4 * imm8v.toNat))) { s.status with cwp := s.status.cwp - 1#5 }
          (s.status.cwp - 1#5) 1#6 h s.nxt) ∧
    (∀ stop, s.loadWord (s.vectorAddr 1#6) = .error stop → exec (.save imm8v) s = outcome (.error stop))

/-- RESTORE (R238). Where no exception is due: CWP plus 1 and nothing else. At HI_LIMIT with the exception enabled (R252;
decision D39, log 27): overflow, exception 2, is entered with CWP back at HI_LIMIT, ISTATUS holding CWP one above it. At
CWP 31 that one above is window 0, where an entry faults (R270, decision D17); in a window the file does not have the
entry faults (R24, log 5), and a vector that cannot be read stops it (R71, log 12). -/
def Obligations.RestoreResult : Prop :=
  ∀ s : State,
    (s.status.cwp ≠ s.hiLimit ∨ s.status.ie = false ∨ s.status.ipri.toNat ≤ 2 →
      ∃ t, exec .restore s = .next t ∧ t.status = { s.status with cwp := s.status.cwp + 1#5 } ∧ WritesNothing s t ∧
        Retired s t ∧ t.skip = s.skip) ∧
    (s.status.cwp = s.hiLimit → s.status.ie = true → 2 < s.status.ipri.toNat →
      (s.status.cwp = 31#5 → exec .restore s = .fault .exceptionAtWindowZero) ∧
      (s.status.cwp ≠ 31#5 → s.nwin ≤ s.status.cwp.toNat → exec .restore s = .fault .windowOutOfFile) ∧
      (s.status.cwp ≠ 31#5 → s.status.cwp.toNat < s.nwin →
        (∀ h, s.loadWord (s.vectorAddr 2#6) = .ok h →
          ∃ t, exec .restore s = .next t ∧
            Entered s t s.rf { s.status with cwp := s.status.cwp + 1#5 } s.status.cwp 2#6 h s.nxt) ∧
        (∀ stop, s.loadWord (s.vectorAddr 2#6) = .error stop → exec .restore s = outcome (.error stop))))

/-- SAVE then RESTORE (R235, R237), no exception being due at either, is back in the caller's window with every visible
register, STATUS, ISTATUS, the window limits and memory as they were. That SAVE's write of `%sp` is outside the caller's
window rests on the window mapping and on the number of `%sp` (decisions D10, D8; log 5, 8). -/
def Obligations.SaveThenRestoreKeepsCaller : Prop :=
  ∀ (s : State) (imm8v : BitVec 8), s.FileOk → s.status.cwp.toNat ≠ 0 → s.status.cwp.toNat < s.nwin →
    (s.status.cwp ≠ s.loLimit ∨ s.status.ie = false ∨ s.status.ipri.toNat ≤ 1) →
    (s.status.cwp - 1#5 ≠ s.hiLimit ∨ s.status.ie = false ∨ s.status.ipri.toNat ≤ 2) →
    ∃ t u, exec (.save imm8v) s = .next t ∧ exec .restore t = .next u ∧ u.status = s.status ∧
      (∀ i : RegNum, u.readReg i = s.readReg i) ∧ SameControl s u ∧ SameMemory s u ∧ SameOutside s u ∧ u.pc = s.nxt + 2#32

/-- RDCTL (R239): STATUS (0), ISTATUS or WVALID by K, each field at its place in `statusLayout` or `ctlMap`, the other bits 0
(R33, R35, R36); any other K is refused (R37). The spec takes the layout and the map from general knowledge (decisions D4,
D5; log 6, 7), and ResetValues says which they are by default. -/
def Obligations.ReadControlResult : Prop :=
  ∀ (s : State) (a : RegNum) (x : Word) (l : StatusLayout) (m : ControlMap), s.readReg a = .ok x →
    l = s.platform.statusLayout → m = s.platform.controlMap → m.Distinct →
    (∀ v : Nat,
      (s.k, v) ∈
        [(0#11, 2 ^ l.ie * s.status.ie.toNat + 2 ^ l.ipri * s.status.ipri.toNat + 2 ^ l.cwp * s.status.cwp.toNat
            + 2 ^ l.n * s.status.n.toNat + 2 ^ l.v * s.status.v.toNat + 2 ^ l.z * s.status.z.toNat
            + 2 ^ l.c * s.status.c.toNat),
          (m.istatus, 2 ^ l.ie * s.istatus.ie.toNat + 2 ^ l.ipri * s.istatus.ipri.toNat
            + 2 ^ l.cwp * s.istatus.cwp.toNat + 2 ^ l.n * s.istatus.n.toNat + 2 ^ l.v * s.istatus.v.toNat
            + 2 ^ l.z * s.istatus.z.toNat + 2 ^ l.c * s.istatus.c.toNat),
          (m.wvalid, 2 ^ m.hiLimit * s.hiLimit.toNat + 2 ^ m.loLimit * s.loLimit.toNat)] →
      ∃ t, exec (.rdctl a) s = .next t ∧ t.status = s.status ∧ WritesOnly s t a (BitVec.ofNat 32 v)) ∧
    (s.k ≠ 0#11 → s.k ≠ m.istatus → s.k ≠ m.wvalid → exec (.rdctl a) s = .refused .unknownControlRegister)

/-- WRCTL (R240): STATUS (0) with the hazard of R46, ISTATUS, or the window limits by K, each field from its place in
`statusLayout` or `ctlMap`, the other bits ignored; nothing else changes; any other K is refused (R37). The spec takes the
layout and the map from general knowledge (decisions D4, D5, D31; log 6, 7), and ResetValues says which they are by
default. -/
def Obligations.WriteControlResult : Prop :=
  ∀ (s : State) (a : RegNum) (x : Word) (l : StatusLayout) (m : ControlMap) (written : Status), s.readReg a = .ok x →
    l = s.platform.statusLayout → m = s.platform.controlMap → m.Distinct →
    written = { ie := decide (x.toNat / 2 ^ l.ie % 2 = 1), ipri := BitVec.ofNat 6 (x.toNat / 2 ^ l.ipri)
                cwp := BitVec.ofNat 5 (x.toNat / 2 ^ l.cwp), n := decide (x.toNat / 2 ^ l.n % 2 = 1)
                v := decide (x.toNat / 2 ^ l.v % 2 = 1), z := decide (x.toNat / 2 ^ l.z % 2 = 1)
                c := decide (x.toNat / 2 ^ l.c % 2 = 1) } →
    (s.k = 0#11 → ∃ t, exec (.wrctl a) s = .next t ∧ t.status = written ∧ WritesNothing s t ∧
      t.ctl0Hazard = true ∧ t.pc = s.nxt ∧ t.btarget = none ∧ t.k = 0#11 ∧ t.pfx = false ∧ t.skip = s.skip) ∧
    (s.k = m.istatus → ∃ t, exec (.wrctl a) s = .next t ∧ t.istatus = written ∧ t.status = s.status ∧ t.rf = s.rf ∧
      t.loLimit = s.loLimit ∧ t.hiLimit = s.hiLimit ∧ SameMemory s t ∧ SameOutside s t ∧ Retired s t ∧ t.skip = s.skip) ∧
    (s.k = m.wvalid → ∃ t, exec (.wrctl a) s = .next t ∧ t.loLimit = BitVec.ofNat 5 (x.toNat / 2 ^ m.loLimit) ∧
      t.hiLimit = BitVec.ofNat 5 (x.toNat / 2 ^ m.hiLimit) ∧ t.istatus = s.istatus ∧ t.status = s.status ∧ t.rf = s.rf ∧
      SameMemory s t ∧ SameOutside s t ∧ Retired s t ∧ t.skip = s.skip) ∧
    (s.k ≠ 0#11 → s.k ≠ m.istatus → s.k ≠ m.wvalid → exec (.wrctl a) s = .refused .unknownControlRegister)

/-- What changes CWP (R24): SAVE, RESTORE, TRAP (exception entry), TRET, and WRCTL to `%ctl0`; no other instruction. -/
def Obligations.OnlyWindowInstructionsChangeCwp : Prop :=
  ∀ (i : Instr) (s t : State), exec i s = .next t → t.status.cwp ≠ s.status.cwp →
    i = .restore ∨ (∃ imm8v, i = .save imm8v) ∨ (∃ n, i = .trap n) ∨ (∃ a, i = .tret a) ∨ (∃ a, i = .wrctl a ∧ s.k = 0#11)

/-! ## The invariant -/

/-- Every step keeps the invariant of the machine, whatever the state, the input and the word fetched (R28, R41, R42, R52). -/
def Obligations.StepKeepsInvariant : Prop := ∀ s t : State, s.Inv → step s = .next t → t.Inv

/-- The machine has the invariant after reset, whatever R50 leaves open, as long as the file is one the spec allows, RESET_ADDR
is even (R28), and memory is given in its canonical form. -/
def Obligations.ResetHasInvariant : Prop :=
  State.reset.Inv ∧
    ∀ u : PowerUp, (State.powerUp u).FileOk → u.resetAddr.getLsbD 0 = false → Memory.wf u.mem = true → (State.powerUp u).Inv

/-- The reset values of R50, whatever it leaves open: LO_LIMIT 1 (the source), IE 0, IPRI 63, CWP and HI_LIMIT at
HI_LIMIT_RESET (which the spec takes from general knowledge, decision D21; log 4), the hidden state idle. `State.reset` has
HI_LIMIT_RESET at NWIN - 1, 128 registers, an even `pc` (log 1, 5), and the parameters of R4 at the spec's defaults:
ADDR_BITS 32 (D3, log 19), the layout of R33 (D4, log 6), the map of R35 and R36 (D5, log 7), the table of R150 (D7, log
10). -/
def Obligations.ResetValues : Prop :=
  (∀ u : PowerUp, (State.powerUp u).loLimit = 1#5 ∧ (State.powerUp u).status.ie = false ∧
    (State.powerUp u).status.ipri = 63#6 ∧ (State.powerUp u).status.cwp = u.hiLimitReset ∧
    (State.powerUp u).hiLimit = u.hiLimitReset ∧ (State.powerUp u).pc = u.resetAddr ∧ (State.powerUp u).rf = u.rf ∧
    (State.powerUp u).k = 0#11 ∧ (State.powerUp u).pfx = false ∧ (State.powerUp u).skip = false ∧
    (State.powerUp u).ctl0Hazard = false ∧ (State.powerUp u).btarget = none) ∧
  State.reset.loLimit = 1#5 ∧ State.reset.status.cwp.toNat = State.reset.nwin - 1 ∧
    State.reset.hiLimit.toNat = State.reset.nwin - 1 ∧ State.reset.pc.getLsbD 0 = false ∧ State.reset.rf.length = 128 ∧
    State.reset.platform.addrBits = 32 ∧
    State.reset.platform.statusLayout = { ie := 15, ipri := 9, cwp := 4, n := 3, v := 2, z := 1, c := 0 } ∧
    State.reset.platform.controlMap = { istatus := 1#11, wvalid := 2#11, hiLimit := 5, loLimit := 0 } ∧
    State.reset.platform.conditions = conditionTableDefault
end

