-- ==== Sys2Proof/Laws/Memory.lean ====
section
/-! SUPPORT. The laws of the sparse data: reading after writing, writing leaves the rest, and every memory operation keeps
the canonical form. -/

namespace Sys2Proof.Machine

/-! ## Keyed lists -/

theorem Assoc.find_put_self {α : Type} (a : Nat) (v : α) (l : List (Nat × α)) : Assoc.find a (Assoc.put a v l) = some v := by
  induction l with
  | nil => simp [Assoc.put, Assoc.find]
  | cons c rest ih =>
    obtain ⟨b, w⟩ := c
    simp only [Assoc.put]
    split
    · simp [Assoc.find]
    · split
      · simp [Assoc.find]
      · next hne => simp [Assoc.find, hne, ih]

theorem Assoc.find_put_other {α : Type} {a b : Nat} (h : b ≠ a) (v : α) (l : List (Nat × α)) :
    Assoc.find b (Assoc.put a v l) = Assoc.find b l := by
  induction l with
  | nil => simp [Assoc.put, Assoc.find, h]
  | cons c rest ih =>
    obtain ⟨d, w⟩ := c
    simp only [Assoc.put]
    split
    · simp [Assoc.find, h]
    · split
      · next hd => subst hd; simp [Assoc.find, h]
      · simp [Assoc.find, ih]

theorem Assoc.find_drop_self {α : Type} (a : Nat) (l : List (Nat × α)) : Assoc.find a (Assoc.drop a l) = none := by
  induction l with
  | nil => rfl
  | cons c rest ih =>
    obtain ⟨b, w⟩ := c
    simp only [Assoc.drop]
    split
    · exact ih
    · next hne => simp [Assoc.find, hne, ih]

theorem Assoc.find_drop_other {α : Type} {a b : Nat} (h : b ≠ a) (l : List (Nat × α)) :
    Assoc.find b (Assoc.drop a l) = Assoc.find b l := by
  induction l with
  | nil => rfl
  | cons c rest ih =>
    obtain ⟨d, w⟩ := c
    simp only [Assoc.drop]
    split
    · next hd => subst hd; simp [Assoc.find, h, ih]
    · simp [Assoc.find, ih]

theorem Assoc.above_put {α : Type} {k a : Nat} (h : k < a) (v : α) (l : List (Nat × α)) (hl : Assoc.above k l = true) :
    Assoc.above k (Assoc.put a v l) = true := by
  induction l with
  | nil => simp [Assoc.put, Assoc.above, h]
  | cons c rest ih =>
    obtain ⟨b, w⟩ := c
    simp only [Assoc.above, Bool.and_eq_true, decide_eq_true_eq] at hl
    simp only [Assoc.put]
    split
    · simp [Assoc.above, h, hl]
    · split
      · simp [Assoc.above, h, hl.2]
      · simp [Assoc.above, hl.1, ih hl.2]

theorem Assoc.above_drop {α : Type} {k : Nat} (a : Nat) (l : List (Nat × α)) (hl : Assoc.above k l = true) :
    Assoc.above k (Assoc.drop a l) = true := by
  induction l with
  | nil => rfl
  | cons c rest ih =>
    obtain ⟨b, w⟩ := c
    simp only [Assoc.above, Bool.and_eq_true, decide_eq_true_eq] at hl
    simp only [Assoc.drop]
    split
    · exact ih hl.2
    · simp [Assoc.above, hl.1, ih hl.2]

theorem Assoc.above_mono {α : Type} {k j : Nat} (h : k ≤ j) (l : List (Nat × α)) (hl : Assoc.above j l = true) :
    Assoc.above k l = true := by
  induction l with
  | nil => rfl
  | cons c rest ih =>
    obtain ⟨b, w⟩ := c
    simp only [Assoc.above, Bool.and_eq_true, decide_eq_true_eq] at hl ⊢
    exact ⟨by omega, ih hl.2⟩

theorem Assoc.rising_put {α : Type} {a : Nat} (h : a < Config.addressSpace) (v : α) (l : List (Nat × α))
    (hl : Assoc.rising l = true) : Assoc.rising (Assoc.put a v l) = true := by
  induction l with
  | nil => simp [Assoc.put, Assoc.rising, Assoc.above, h]
  | cons c rest ih =>
    obtain ⟨b, w⟩ := c
    simp only [Assoc.rising, Bool.and_eq_true, decide_eq_true_eq] at hl
    obtain ⟨⟨hb, hab⟩, hr⟩ := hl
    simp only [Assoc.put]
    split
    · next hlt => simp [Assoc.rising, Assoc.above, h, hb, hab, hr, hlt, Assoc.above_mono (Nat.le_of_lt hlt) rest hab]
    · split
      · next he => subst he; simp [Assoc.rising, h, hab, hr]
      · next hlt hne => simp [Assoc.rising, hb, ih hr, Assoc.above_put (by omega : b < a) v rest hab]

theorem Assoc.rising_drop {α : Type} (a : Nat) (l : List (Nat × α)) (hl : Assoc.rising l = true) :
    Assoc.rising (Assoc.drop a l) = true := by
  induction l with
  | nil => rfl
  | cons c rest ih =>
    obtain ⟨b, w⟩ := c
    simp only [Assoc.rising, Bool.and_eq_true, decide_eq_true_eq] at hl
    obtain ⟨⟨hb, hab⟩, hr⟩ := hl
    simp only [Assoc.drop]
    split
    · exact ih hr
    · simp [Assoc.rising, hb, ih hr, Assoc.above_drop a rest hab]

/-! ## Memory -/

theorem Memory.allListed_put {v : Byte} (h : v ≠ Config.unlistedByte) (a : Nat) (m : List Host.Cell)
    (hm : Memory.allListed m = true) : Memory.allListed (Assoc.put a v m) = true := by
  induction m with
  | nil => simp [Assoc.put, Memory.allListed, h]
  | cons c rest ih =>
    obtain ⟨b, w⟩ := c
    simp only [Memory.allListed, Bool.and_eq_true, decide_eq_true_eq] at hm
    simp only [Assoc.put]
    split
    · simp [Memory.allListed, h, hm]
    · split
      · simp [Memory.allListed, h, hm.2]
      · simp [Memory.allListed, hm.1, ih hm.2]

theorem Memory.allListed_drop (a : Nat) (m : List Host.Cell) (hm : Memory.allListed m = true) :
    Memory.allListed (Assoc.drop a m) = true := by
  induction m with
  | nil => rfl
  | cons c rest ih =>
    obtain ⟨b, w⟩ := c
    simp only [Memory.allListed, Bool.and_eq_true, decide_eq_true_eq] at hm
    simp only [Assoc.drop]
    split
    · exact ih hm.2
    · simp [Memory.allListed, hm.1, ih hm.2]

theorem Memory.read_write_same (m : List Host.Cell) (a : Nat) (v : Byte) : Memory.read (Memory.write m a v) a = v := by
  unfold Memory.write
  split
  · next h => simp [Memory.read, Assoc.find_drop_self, h]
  · simp [Memory.read, Assoc.find_put_self]

theorem Memory.read_write_other {a b : Nat} (h : b ≠ a) (m : List Host.Cell) (v : Byte) :
    Memory.read (Memory.write m a v) b = Memory.read m b := by
  unfold Memory.write
  split
  · simp [Memory.read, Assoc.find_drop_other h]
  · simp [Memory.read, Assoc.find_put_other h]

/-- A write keeps the canonical form. -/
theorem Memory.write_wf {m : List Host.Cell} {a : Nat} (h : a < Config.addressSpace) (v : Byte) (hm : Memory.wf m = true) :
    Memory.wf (Memory.write m a v) = true := by
  simp only [Memory.wf, Bool.and_eq_true] at hm ⊢
  unfold Memory.write
  split
  · exact ⟨Assoc.rising_drop a m hm.1, Memory.allListed_drop a m hm.2⟩
  · next hv => exact ⟨Assoc.rising_put h v m hm.1, Memory.allListed_put hv a m hm.2⟩

/-- A store of several bytes leaves every other byte. -/
theorem Memory.read_writeAll_outside (vs : List Byte) (m : List Host.Cell) (a b : Nat) (h : b < a ∨ a + vs.length ≤ b) :
    Memory.read (Memory.writeAll m a vs) b = Memory.read m b := by
  induction vs generalizing m a with
  | nil => rfl
  | cons v vs ih =>
    simp only [List.length_cons] at h
    rw [Memory.writeAll, ih _ _ (by omega), Memory.read_write_other (by omega)]

/-- A store of several bytes puts each where it belongs. -/
theorem Memory.read_writeAll_inside (vs : List Byte) (m : List Host.Cell) (a k : Nat) (h : k < vs.length) :
    Memory.read (Memory.writeAll m a vs) (a + k) = vs[k] := by
  induction vs generalizing m a k with
  | nil => simp at h
  | cons v vs ih =>
    rw [Memory.writeAll]
    cases k with
    | zero => rw [Memory.read_writeAll_outside _ _ _ _ (by omega)]; simp [Memory.read_write_same]
    | succ k =>
      have := ih (Memory.write m a v) (a + 1) k (by simpa using h)
      rw [show a + (k + 1) = a + 1 + k by omega, this]; rfl

/-- A store of several bytes keeps the canonical form. -/
theorem Memory.writeAll_wf (vs : List Byte) {m : List Host.Cell} {a : Nat} (h : a + vs.length ≤ Config.addressSpace)
    (hm : Memory.wf m = true) : Memory.wf (Memory.writeAll m a vs) = true := by
  induction vs generalizing m a with
  | nil => exact hm
  | cons v vs ih =>
    simp only [List.length_cons] at h
    exact ih (by omega) (Memory.write_wf (by omega) v hm)

/-! ## The log of stores -/

theorem logStores_outside (now n : Nat) (log : List (Nat × Nat)) (a b : Nat) (h : b < a ∨ a + n ≤ b) :
    Assoc.find b (logStores log now a n) = Assoc.find b log := by
  induction n generalizing log a with
  | zero => rfl
  | succ n ih => rw [logStores, ih _ _ (by omega), Assoc.find_put_other (by omega)]

theorem logStores_inside (now n : Nat) (log : List (Nat × Nat)) (a k : Nat) (h : k < n) :
    Assoc.find (a + k) (logStores log now a n) = some now := by
  induction n generalizing log a k with
  | zero => omega
  | succ n ih =>
    rw [logStores]
    cases k with
    | zero => rw [logStores_outside _ _ _ _ _ (by omega)]; exact Assoc.find_put_self a now log
    | succ k => rw [show a + (k + 1) = a + 1 + k by omega, ih _ _ _ (by omega)]

theorem logStores_rising (now n : Nat) {log : List (Nat × Nat)} {a : Nat} (h : a + n ≤ Config.addressSpace)
    (hl : Assoc.rising log = true) : Assoc.rising (logStores log now a n) = true := by
  induction n generalizing log a with
  | zero => exact hl
  | succ n ih => exact ih (by omega) (Assoc.rising_put (by omega) now log hl)

end Sys2Proof.Machine
end

