-- ==== Sys2Proof/Laws/State.lean ====
section
/-! SUPPORT. One lemma per field per update of the state, each true by `rfl`: no later proof unfolds a record update. -/

namespace Sys2Proof.Machine

/-! ### A rewritten STATUS -/

@[simp] theorem State.mapStatus_rf (s : State) (f : Status → Status) : (s.mapStatus f).rf = s.rf := rfl
@[simp] theorem State.mapStatus_pc (s : State) (f : Status → Status) : (s.mapStatus f).pc = s.pc := rfl
@[simp] theorem State.mapStatus_status (s : State) (f : Status → Status) : (s.mapStatus f).status = f s.status := rfl
@[simp] theorem State.mapStatus_istatus (s : State) (f : Status → Status) : (s.mapStatus f).istatus = s.istatus := rfl
@[simp] theorem State.mapStatus_loLimit (s : State) (f : Status → Status) : (s.mapStatus f).loLimit = s.loLimit := rfl
@[simp] theorem State.mapStatus_hiLimit (s : State) (f : Status → Status) : (s.mapStatus f).hiLimit = s.hiLimit := rfl
@[simp] theorem State.mapStatus_k (s : State) (f : Status → Status) : (s.mapStatus f).k = s.k := rfl
@[simp] theorem State.mapStatus_pfx (s : State) (f : Status → Status) : (s.mapStatus f).pfx = s.pfx := rfl
@[simp] theorem State.mapStatus_skip (s : State) (f : Status → Status) : (s.mapStatus f).skip = s.skip := rfl
@[simp] theorem State.mapStatus_btarget (s : State) (f : Status → Status) : (s.mapStatus f).btarget = s.btarget := rfl
@[simp] theorem State.mapStatus_ctl0Hazard (s : State) (f : Status → Status) : (s.mapStatus f).ctl0Hazard = s.ctl0Hazard := rfl
@[simp] theorem State.mapStatus_mem (s : State) (f : Status → Status) : (s.mapStatus f).mem = s.mem := rfl
@[simp] theorem State.mapStatus_platform (s : State) (f : Status → Status) : (s.mapStatus f).platform = s.platform := rfl
@[simp] theorem State.mapStatus_env (s : State) (f : Status → Status) : (s.mapStatus f).env = s.env := rfl
@[simp] theorem State.mapStatus_now (s : State) (f : Status → Status) : (s.mapStatus f).now = s.now := rfl
@[simp] theorem State.mapStatus_stores (s : State) (f : Status → Status) : (s.mapStatus f).stores = s.stores := rfl
@[simp] theorem State.mapStatus_bus (s : State) (f : Status → Status) : (s.mapStatus f).bus = s.bus := rfl

/-! ### A bus access -/

@[simp] theorem State.accessed_rf (s : State) (p : Port) (a size : Nat) (vs : Option (List Byte)) :
    (s.accessed p a size vs).rf = s.rf := by cases p <;> rfl
@[simp] theorem State.accessed_pc (s : State) (p : Port) (a size : Nat) (vs : Option (List Byte)) :
    (s.accessed p a size vs).pc = s.pc := by cases p <;> rfl
@[simp] theorem State.accessed_status (s : State) (p : Port) (a size : Nat) (vs : Option (List Byte)) :
    (s.accessed p a size vs).status = s.status := by cases p <;> rfl
@[simp] theorem State.accessed_istatus (s : State) (p : Port) (a size : Nat) (vs : Option (List Byte)) :
    (s.accessed p a size vs).istatus = s.istatus := by cases p <;> rfl
@[simp] theorem State.accessed_loLimit (s : State) (p : Port) (a size : Nat) (vs : Option (List Byte)) :
    (s.accessed p a size vs).loLimit = s.loLimit := by cases p <;> rfl
@[simp] theorem State.accessed_hiLimit (s : State) (p : Port) (a size : Nat) (vs : Option (List Byte)) :
    (s.accessed p a size vs).hiLimit = s.hiLimit := by cases p <;> rfl
@[simp] theorem State.accessed_k (s : State) (p : Port) (a size : Nat) (vs : Option (List Byte)) :
    (s.accessed p a size vs).k = s.k := by cases p <;> rfl
@[simp] theorem State.accessed_pfx (s : State) (p : Port) (a size : Nat) (vs : Option (List Byte)) :
    (s.accessed p a size vs).pfx = s.pfx := by cases p <;> rfl
@[simp] theorem State.accessed_skip (s : State) (p : Port) (a size : Nat) (vs : Option (List Byte)) :
    (s.accessed p a size vs).skip = s.skip := by cases p <;> rfl
@[simp] theorem State.accessed_btarget (s : State) (p : Port) (a size : Nat) (vs : Option (List Byte)) :
    (s.accessed p a size vs).btarget = s.btarget := by cases p <;> rfl
@[simp] theorem State.accessed_ctl0Hazard (s : State) (p : Port) (a size : Nat) (vs : Option (List Byte)) :
    (s.accessed p a size vs).ctl0Hazard = s.ctl0Hazard := by cases p <;> rfl
@[simp] theorem State.accessed_mem (s : State) (p : Port) (a size : Nat) (vs : Option (List Byte)) :
    (s.accessed p a size vs).mem = s.mem := by cases p <;> rfl
@[simp] theorem State.accessed_platform (s : State) (p : Port) (a size : Nat) (vs : Option (List Byte)) :
    (s.accessed p a size vs).platform = s.platform := by cases p <;> rfl
@[simp] theorem State.accessed_env (s : State) (p : Port) (a size : Nat) (vs : Option (List Byte)) :
    (s.accessed p a size vs).env = s.env := by cases p <;> rfl
@[simp] theorem State.accessed_now (s : State) (p : Port) (a size : Nat) (vs : Option (List Byte)) :
    (s.accessed p a size vs).now = s.now := by cases p <;> rfl
@[simp] theorem State.accessed_stores (s : State) (p : Port) (a size : Nat) (vs : Option (List Byte)) :
    (s.accessed p a size vs).stores = s.stores := by cases p <;> rfl
@[simp] theorem State.accessed_memory (s : State) (a size : Nat) (vs : Option (List Byte)) :
    s.accessed .memory a size vs = s := rfl
@[simp] theorem State.accessed_device_bus (s : State) (a size : Nat) (vs : Option (List Byte)) :
    (s.accessed .device a size vs).bus = { now := s.now, addr := a, size := size, stored := vs } :: s.bus := rfl
@[simp] theorem State.answer_memory (s : State) (a : Nat) : s.answer .memory a = s.byteAt a := rfl
@[simp] theorem State.answer_device (s : State) (a : Nat) : s.answer .device a = Config.deviceByte s.bus a := rfl

/-! ### A store -/

@[simp] theorem State.stored_rf (s : State) (p : Port) (a : Nat) (vs : List Byte) : (s.stored p a vs).rf = s.rf := by
  cases p <;> rfl
@[simp] theorem State.stored_pc (s : State) (p : Port) (a : Nat) (vs : List Byte) : (s.stored p a vs).pc = s.pc := by
  cases p <;> rfl
@[simp] theorem State.stored_status (s : State) (p : Port) (a : Nat) (vs : List Byte) : (s.stored p a vs).status = s.status := by
  cases p <;> rfl
@[simp] theorem State.stored_istatus (s : State) (p : Port) (a : Nat) (vs : List Byte) : (s.stored p a vs).istatus = s.istatus := by
  cases p <;> rfl
@[simp] theorem State.stored_loLimit (s : State) (p : Port) (a : Nat) (vs : List Byte) : (s.stored p a vs).loLimit = s.loLimit := by
  cases p <;> rfl
@[simp] theorem State.stored_hiLimit (s : State) (p : Port) (a : Nat) (vs : List Byte) : (s.stored p a vs).hiLimit = s.hiLimit := by
  cases p <;> rfl
@[simp] theorem State.stored_k (s : State) (p : Port) (a : Nat) (vs : List Byte) : (s.stored p a vs).k = s.k := by
  cases p <;> rfl
@[simp] theorem State.stored_pfx (s : State) (p : Port) (a : Nat) (vs : List Byte) : (s.stored p a vs).pfx = s.pfx := by
  cases p <;> rfl
@[simp] theorem State.stored_skip (s : State) (p : Port) (a : Nat) (vs : List Byte) : (s.stored p a vs).skip = s.skip := by
  cases p <;> rfl
@[simp] theorem State.stored_btarget (s : State) (p : Port) (a : Nat) (vs : List Byte) : (s.stored p a vs).btarget = s.btarget := by
  cases p <;> rfl
@[simp] theorem State.stored_ctl0Hazard (s : State) (p : Port) (a : Nat) (vs : List Byte) : (s.stored p a vs).ctl0Hazard = s.ctl0Hazard := by
  cases p <;> rfl
@[simp] theorem State.stored_platform (s : State) (p : Port) (a : Nat) (vs : List Byte) : (s.stored p a vs).platform = s.platform := by
  cases p <;> rfl
@[simp] theorem State.stored_env (s : State) (p : Port) (a : Nat) (vs : List Byte) : (s.stored p a vs).env = s.env := by
  cases p <;> rfl
@[simp] theorem State.stored_now (s : State) (p : Port) (a : Nat) (vs : List Byte) : (s.stored p a vs).now = s.now := by
  cases p <;> rfl
@[simp] theorem State.stored_stores (s : State) (p : Port) (a : Nat) (vs : List Byte) :
    (s.stored p a vs).stores = logStores s.stores s.now a vs.length := rfl
@[simp] theorem State.stored_memory_mem (s : State) (a : Nat) (vs : List Byte) :
    (s.stored .memory a vs).mem = Memory.writeAll s.mem a vs := rfl
@[simp] theorem State.stored_memory_bus (s : State) (a : Nat) (vs : List Byte) : (s.stored .memory a vs).bus = s.bus := rfl
@[simp] theorem State.stored_device_mem (s : State) (a : Nat) (vs : List Byte) : (s.stored .device a vs).mem = s.mem := rfl
@[simp] theorem State.stored_device_bus (s : State) (a : Nat) (vs : List Byte) :
    (s.stored .device a vs).bus = { now := s.now, addr := a, size := vs.length, stored := some vs } :: s.bus := rfl

/-! ### The end of an instruction -/

@[simp] theorem State.retire_rf (s : State) : (s.retire).rf = s.rf := rfl
@[simp] theorem State.retire_pc (s : State) : (s.retire).pc = s.nxt := rfl
@[simp] theorem State.retire_status (s : State) : (s.retire).status = s.status := rfl
@[simp] theorem State.retire_istatus (s : State) : (s.retire).istatus = s.istatus := rfl
@[simp] theorem State.retire_loLimit (s : State) : (s.retire).loLimit = s.loLimit := rfl
@[simp] theorem State.retire_hiLimit (s : State) : (s.retire).hiLimit = s.hiLimit := rfl
@[simp] theorem State.retire_k (s : State) : (s.retire).k = 0#11 := rfl
@[simp] theorem State.retire_pfx (s : State) : (s.retire).pfx = false := rfl
@[simp] theorem State.retire_skip (s : State) : (s.retire).skip = s.skip := rfl
@[simp] theorem State.retire_btarget (s : State) : (s.retire).btarget = none := rfl
@[simp] theorem State.retire_ctl0Hazard (s : State) : (s.retire).ctl0Hazard = false := rfl
@[simp] theorem State.retire_mem (s : State) : (s.retire).mem = s.mem := rfl
@[simp] theorem State.retire_platform (s : State) : (s.retire).platform = s.platform := rfl
@[simp] theorem State.retire_env (s : State) : (s.retire).env = s.env := rfl
@[simp] theorem State.retire_now (s : State) : (s.retire).now = s.now := rfl
@[simp] theorem State.retire_stores (s : State) : (s.retire).stores = s.stores := rfl
@[simp] theorem State.retire_bus (s : State) : (s.retire).bus = s.bus := rfl

/-! ### The end of a delayed transfer -/

@[simp] theorem State.retireTo_rf (s : State) (t : Word) : (s.retireTo t).rf = s.rf := rfl
@[simp] theorem State.retireTo_pc (s : State) (t : Word) : (s.retireTo t).pc = s.nxt := rfl
@[simp] theorem State.retireTo_status (s : State) (t : Word) : (s.retireTo t).status = s.status := rfl
@[simp] theorem State.retireTo_istatus (s : State) (t : Word) : (s.retireTo t).istatus = s.istatus := rfl
@[simp] theorem State.retireTo_loLimit (s : State) (t : Word) : (s.retireTo t).loLimit = s.loLimit := rfl
@[simp] theorem State.retireTo_hiLimit (s : State) (t : Word) : (s.retireTo t).hiLimit = s.hiLimit := rfl
@[simp] theorem State.retireTo_k (s : State) (t : Word) : (s.retireTo t).k = 0#11 := rfl
@[simp] theorem State.retireTo_pfx (s : State) (t : Word) : (s.retireTo t).pfx = false := rfl
@[simp] theorem State.retireTo_skip (s : State) (t : Word) : (s.retireTo t).skip = s.skip := rfl
@[simp] theorem State.retireTo_btarget (s : State) (t : Word) : (s.retireTo t).btarget = some t := rfl
@[simp] theorem State.retireTo_ctl0Hazard (s : State) (t : Word) : (s.retireTo t).ctl0Hazard = false := rfl
@[simp] theorem State.retireTo_mem (s : State) (t : Word) : (s.retireTo t).mem = s.mem := rfl
@[simp] theorem State.retireTo_platform (s : State) (t : Word) : (s.retireTo t).platform = s.platform := rfl
@[simp] theorem State.retireTo_env (s : State) (t : Word) : (s.retireTo t).env = s.env := rfl
@[simp] theorem State.retireTo_now (s : State) (t : Word) : (s.retireTo t).now = s.now := rfl
@[simp] theorem State.retireTo_stores (s : State) (t : Word) : (s.retireTo t).stores = s.stores := rfl
@[simp] theorem State.retireTo_bus (s : State) (t : Word) : (s.retireTo t).bus = s.bus := rfl

/-! ### The end of a skip instruction -/

@[simp] theorem State.retireSkip_rf (s : State) (b : Bool) : (s.retireSkip b).rf = s.rf := rfl
@[simp] theorem State.retireSkip_pc (s : State) (b : Bool) : (s.retireSkip b).pc = s.nxt := rfl
@[simp] theorem State.retireSkip_status (s : State) (b : Bool) : (s.retireSkip b).status = s.status := rfl
@[simp] theorem State.retireSkip_istatus (s : State) (b : Bool) : (s.retireSkip b).istatus = s.istatus := rfl
@[simp] theorem State.retireSkip_loLimit (s : State) (b : Bool) : (s.retireSkip b).loLimit = s.loLimit := rfl
@[simp] theorem State.retireSkip_hiLimit (s : State) (b : Bool) : (s.retireSkip b).hiLimit = s.hiLimit := rfl
@[simp] theorem State.retireSkip_k (s : State) (b : Bool) : (s.retireSkip b).k = 0#11 := rfl
@[simp] theorem State.retireSkip_pfx (s : State) (b : Bool) : (s.retireSkip b).pfx = false := rfl
@[simp] theorem State.retireSkip_skip (s : State) (b : Bool) : (s.retireSkip b).skip = (s.skip || b) := rfl
@[simp] theorem State.retireSkip_btarget (s : State) (b : Bool) : (s.retireSkip b).btarget = none := rfl
@[simp] theorem State.retireSkip_ctl0Hazard (s : State) (b : Bool) : (s.retireSkip b).ctl0Hazard = false := rfl
@[simp] theorem State.retireSkip_mem (s : State) (b : Bool) : (s.retireSkip b).mem = s.mem := rfl
@[simp] theorem State.retireSkip_platform (s : State) (b : Bool) : (s.retireSkip b).platform = s.platform := rfl
@[simp] theorem State.retireSkip_env (s : State) (b : Bool) : (s.retireSkip b).env = s.env := rfl
@[simp] theorem State.retireSkip_now (s : State) (b : Bool) : (s.retireSkip b).now = s.now := rfl
@[simp] theorem State.retireSkip_stores (s : State) (b : Bool) : (s.retireSkip b).stores = s.stores := rfl
@[simp] theorem State.retireSkip_bus (s : State) (b : Bool) : (s.retireSkip b).bus = s.bus := rfl

/-! ### A cancelled instruction -/

@[simp] theorem State.cancel_rf (s : State) (i : Instr) : (s.cancel i).rf = s.rf := rfl
@[simp] theorem State.cancel_pc (s : State) (i : Instr) : (s.cancel i).pc = s.nxt := rfl
@[simp] theorem State.cancel_status (s : State) (i : Instr) : (s.cancel i).status = s.status := rfl
@[simp] theorem State.cancel_istatus (s : State) (i : Instr) : (s.cancel i).istatus = s.istatus := rfl
@[simp] theorem State.cancel_loLimit (s : State) (i : Instr) : (s.cancel i).loLimit = s.loLimit := rfl
@[simp] theorem State.cancel_hiLimit (s : State) (i : Instr) : (s.cancel i).hiLimit = s.hiLimit := rfl
@[simp] theorem State.cancel_k (s : State) (i : Instr) : (s.cancel i).k = 0#11 := rfl
@[simp] theorem State.cancel_pfx (s : State) (i : Instr) : (s.cancel i).pfx = false := rfl
@[simp] theorem State.cancel_skip (s : State) (i : Instr) : (s.cancel i).skip = isPfx i := rfl
@[simp] theorem State.cancel_btarget (s : State) (i : Instr) : (s.cancel i).btarget = none := rfl
@[simp] theorem State.cancel_ctl0Hazard (s : State) (i : Instr) : (s.cancel i).ctl0Hazard = false := rfl
@[simp] theorem State.cancel_mem (s : State) (i : Instr) : (s.cancel i).mem = s.mem := rfl
@[simp] theorem State.cancel_platform (s : State) (i : Instr) : (s.cancel i).platform = s.platform := rfl
@[simp] theorem State.cancel_env (s : State) (i : Instr) : (s.cancel i).env = s.env := rfl
@[simp] theorem State.cancel_now (s : State) (i : Instr) : (s.cancel i).now = s.now := rfl
@[simp] theorem State.cancel_stores (s : State) (i : Instr) : (s.cancel i).stores = s.stores := rfl
@[simp] theorem State.cancel_bus (s : State) (i : Instr) : (s.cancel i).bus = s.bus := rfl

/-! ### Control redirected, hidden state idle -/

@[simp] theorem State.redirect_rf (s : State) (t : Word) : (s.redirect t).rf = s.rf := rfl
@[simp] theorem State.redirect_pc (s : State) (t : Word) : (s.redirect t).pc = t := rfl
@[simp] theorem State.redirect_status (s : State) (t : Word) : (s.redirect t).status = s.status := rfl
@[simp] theorem State.redirect_istatus (s : State) (t : Word) : (s.redirect t).istatus = s.istatus := rfl
@[simp] theorem State.redirect_loLimit (s : State) (t : Word) : (s.redirect t).loLimit = s.loLimit := rfl
@[simp] theorem State.redirect_hiLimit (s : State) (t : Word) : (s.redirect t).hiLimit = s.hiLimit := rfl
@[simp] theorem State.redirect_k (s : State) (t : Word) : (s.redirect t).k = 0#11 := rfl
@[simp] theorem State.redirect_pfx (s : State) (t : Word) : (s.redirect t).pfx = false := rfl
@[simp] theorem State.redirect_skip (s : State) (t : Word) : (s.redirect t).skip = false := rfl
@[simp] theorem State.redirect_btarget (s : State) (t : Word) : (s.redirect t).btarget = none := rfl
@[simp] theorem State.redirect_ctl0Hazard (s : State) (t : Word) : (s.redirect t).ctl0Hazard = false := rfl
@[simp] theorem State.redirect_mem (s : State) (t : Word) : (s.redirect t).mem = s.mem := rfl
@[simp] theorem State.redirect_platform (s : State) (t : Word) : (s.redirect t).platform = s.platform := rfl
@[simp] theorem State.redirect_env (s : State) (t : Word) : (s.redirect t).env = s.env := rfl
@[simp] theorem State.redirect_now (s : State) (t : Word) : (s.redirect t).now = s.now := rfl
@[simp] theorem State.redirect_stores (s : State) (t : Word) : (s.redirect t).stores = s.stores := rfl
@[simp] theorem State.redirect_bus (s : State) (t : Word) : (s.redirect t).bus = s.bus := rfl

/-! ### Return from an exception -/

@[simp] theorem State.exceptionReturn_rf (s : State) (t : Word) : (s.exceptionReturn t).rf = s.rf := rfl
@[simp] theorem State.exceptionReturn_pc (s : State) (t : Word) : (s.exceptionReturn t).pc = t * 2#32 := rfl
@[simp] theorem State.exceptionReturn_status (s : State) (t : Word) : (s.exceptionReturn t).status = s.istatus := rfl
@[simp] theorem State.exceptionReturn_istatus (s : State) (t : Word) : (s.exceptionReturn t).istatus = s.istatus := rfl
@[simp] theorem State.exceptionReturn_loLimit (s : State) (t : Word) : (s.exceptionReturn t).loLimit = s.loLimit := rfl
@[simp] theorem State.exceptionReturn_hiLimit (s : State) (t : Word) : (s.exceptionReturn t).hiLimit = s.hiLimit := rfl
@[simp] theorem State.exceptionReturn_k (s : State) (t : Word) : (s.exceptionReturn t).k = 0#11 := rfl
@[simp] theorem State.exceptionReturn_pfx (s : State) (t : Word) : (s.exceptionReturn t).pfx = false := rfl
@[simp] theorem State.exceptionReturn_skip (s : State) (t : Word) : (s.exceptionReturn t).skip = s.skip := rfl
@[simp] theorem State.exceptionReturn_btarget (s : State) (t : Word) : (s.exceptionReturn t).btarget = none := rfl
@[simp] theorem State.exceptionReturn_ctl0Hazard (s : State) (t : Word) : (s.exceptionReturn t).ctl0Hazard = false := rfl
@[simp] theorem State.exceptionReturn_mem (s : State) (t : Word) : (s.exceptionReturn t).mem = s.mem := rfl
@[simp] theorem State.exceptionReturn_platform (s : State) (t : Word) : (s.exceptionReturn t).platform = s.platform := rfl
@[simp] theorem State.exceptionReturn_env (s : State) (t : Word) : (s.exceptionReturn t).env = s.env := rfl
@[simp] theorem State.exceptionReturn_now (s : State) (t : Word) : (s.exceptionReturn t).now = s.now := rfl
@[simp] theorem State.exceptionReturn_stores (s : State) (t : Word) : (s.exceptionReturn t).stores = s.stores := rfl
@[simp] theorem State.exceptionReturn_bus (s : State) (t : Word) : (s.exceptionReturn t).bus = s.bus := rfl

/-! ### The moved window -/

@[simp] theorem State.moveWindow_rf (s : State) (d : BitVec 5) : (s.moveWindow d).rf = s.rf := rfl
@[simp] theorem State.moveWindow_pc (s : State) (d : BitVec 5) : (s.moveWindow d).pc = s.pc := rfl
@[simp] theorem State.moveWindow_status (s : State) (d : BitVec 5) : (s.moveWindow d).status = { s.status with cwp := s.status.cwp + d } := rfl
@[simp] theorem State.moveWindow_istatus (s : State) (d : BitVec 5) : (s.moveWindow d).istatus = s.istatus := rfl
@[simp] theorem State.moveWindow_loLimit (s : State) (d : BitVec 5) : (s.moveWindow d).loLimit = s.loLimit := rfl
@[simp] theorem State.moveWindow_hiLimit (s : State) (d : BitVec 5) : (s.moveWindow d).hiLimit = s.hiLimit := rfl
@[simp] theorem State.moveWindow_k (s : State) (d : BitVec 5) : (s.moveWindow d).k = s.k := rfl
@[simp] theorem State.moveWindow_pfx (s : State) (d : BitVec 5) : (s.moveWindow d).pfx = s.pfx := rfl
@[simp] theorem State.moveWindow_skip (s : State) (d : BitVec 5) : (s.moveWindow d).skip = s.skip := rfl
@[simp] theorem State.moveWindow_btarget (s : State) (d : BitVec 5) : (s.moveWindow d).btarget = s.btarget := rfl
@[simp] theorem State.moveWindow_ctl0Hazard (s : State) (d : BitVec 5) : (s.moveWindow d).ctl0Hazard = s.ctl0Hazard := rfl
@[simp] theorem State.moveWindow_mem (s : State) (d : BitVec 5) : (s.moveWindow d).mem = s.mem := rfl
@[simp] theorem State.moveWindow_platform (s : State) (d : BitVec 5) : (s.moveWindow d).platform = s.platform := rfl
@[simp] theorem State.moveWindow_env (s : State) (d : BitVec 5) : (s.moveWindow d).env = s.env := rfl
@[simp] theorem State.moveWindow_now (s : State) (d : BitVec 5) : (s.moveWindow d).now = s.now := rfl
@[simp] theorem State.moveWindow_stores (s : State) (d : BitVec 5) : (s.moveWindow d).stores = s.stores := rfl
@[simp] theorem State.moveWindow_bus (s : State) (d : BitVec 5) : (s.moveWindow d).bus = s.bus := rfl

/-! ### A consumed input -/

@[simp] theorem State.dropInput_rf (s : State) : (s.dropInput).rf = s.rf := rfl
@[simp] theorem State.dropInput_pc (s : State) : (s.dropInput).pc = s.pc := rfl
@[simp] theorem State.dropInput_status (s : State) : (s.dropInput).status = s.status := rfl
@[simp] theorem State.dropInput_istatus (s : State) : (s.dropInput).istatus = s.istatus := rfl
@[simp] theorem State.dropInput_loLimit (s : State) : (s.dropInput).loLimit = s.loLimit := rfl
@[simp] theorem State.dropInput_hiLimit (s : State) : (s.dropInput).hiLimit = s.hiLimit := rfl
@[simp] theorem State.dropInput_k (s : State) : (s.dropInput).k = s.k := rfl
@[simp] theorem State.dropInput_pfx (s : State) : (s.dropInput).pfx = s.pfx := rfl
@[simp] theorem State.dropInput_skip (s : State) : (s.dropInput).skip = s.skip := rfl
@[simp] theorem State.dropInput_btarget (s : State) : (s.dropInput).btarget = s.btarget := rfl
@[simp] theorem State.dropInput_ctl0Hazard (s : State) : (s.dropInput).ctl0Hazard = s.ctl0Hazard := rfl
@[simp] theorem State.dropInput_mem (s : State) : (s.dropInput).mem = s.mem := rfl
@[simp] theorem State.dropInput_platform (s : State) : (s.dropInput).platform = s.platform := rfl
@[simp] theorem State.dropInput_env (s : State) : (s.dropInput).env = s.env.tail := rfl
@[simp] theorem State.dropInput_now (s : State) : (s.dropInput).now = s.now := rfl
@[simp] theorem State.dropInput_stores (s : State) : (s.dropInput).stores = s.stores := rfl
@[simp] theorem State.dropInput_bus (s : State) : (s.dropInput).bus = s.bus := rfl

/-! ### A counted instruction -/

@[simp] theorem State.begin_rf (s : State) : (s.begin).rf = s.rf := rfl
@[simp] theorem State.begin_pc (s : State) : (s.begin).pc = s.pc := rfl
@[simp] theorem State.begin_status (s : State) : (s.begin).status = s.status := rfl
@[simp] theorem State.begin_istatus (s : State) : (s.begin).istatus = s.istatus := rfl
@[simp] theorem State.begin_loLimit (s : State) : (s.begin).loLimit = s.loLimit := rfl
@[simp] theorem State.begin_hiLimit (s : State) : (s.begin).hiLimit = s.hiLimit := rfl
@[simp] theorem State.begin_k (s : State) : (s.begin).k = s.k := rfl
@[simp] theorem State.begin_pfx (s : State) : (s.begin).pfx = s.pfx := rfl
@[simp] theorem State.begin_skip (s : State) : (s.begin).skip = s.skip := rfl
@[simp] theorem State.begin_btarget (s : State) : (s.begin).btarget = s.btarget := rfl
@[simp] theorem State.begin_ctl0Hazard (s : State) : (s.begin).ctl0Hazard = s.ctl0Hazard := rfl
@[simp] theorem State.begin_mem (s : State) : (s.begin).mem = s.mem := rfl
@[simp] theorem State.begin_platform (s : State) : (s.begin).platform = s.platform := rfl
@[simp] theorem State.begin_env (s : State) : (s.begin).env = s.env.tail := rfl
@[simp] theorem State.begin_now (s : State) : (s.begin).now = s.now + 1 := rfl
@[simp] theorem State.begin_stores (s : State) : (s.begin).stores = s.stores := rfl
@[simp] theorem State.begin_bus (s : State) : (s.begin).bus = s.bus := rfl

end Sys2Proof.Machine
end

