-- ==== Sys2Proof/Laws/Registers.lean ====
section
/-! SUPPORT. The laws of the register window: what a read or a write of a visible register can answer, reading after
writing, and that one physical register changes. -/

namespace Sys2Proof.Machine

/-- The physical index depends on the length of the file and on CWP alone. -/
theorem State.physIndex_congr {s t : State} (hl : t.rf.length = s.rf.length) (hc : t.status.cwp = s.status.cwp)
    (i : RegNum) : t.physIndex i = s.physIndex i := by
  unfold State.physIndex State.nwin
  rw [hl, hc]

/-- Everything a read of a register can answer. -/
theorem State.readReg_ok {s : State} {i : RegNum} {v : Word} :
    s.readReg i = .ok v ↔ ∃ j, s.physIndex i = some j ∧ s.rf[j]? = some v := by
  unfold State.readReg
  cases h : s.physIndex i with
  | none => simp
  | some j =>
    simp only [Option.bind_some, Option.some.injEq, exists_eq_left']
    cases s.rf[j]? <;> simp

/-- A read that answers nothing is the fault of R24. -/
theorem State.readReg_error {s : State} {i : RegNum} {e : Stop} (h : s.readReg i = .error e) :
    e = .fault .windowOutOfFile := by
  unfold State.readReg at h
  split at h <;> simp_all

/-- Everything a write of a register can answer. -/
theorem State.writeReg_ok {s t : State} {i : RegNum} {v : Word} :
    s.writeReg i v = .ok t ↔ ∃ j, s.physIndex i = some j ∧ j < s.rf.length ∧ t = { s with rf := s.rf.set j v } := by
  unfold State.writeReg
  cases h : s.physIndex i with
  | none => simp
  | some j =>
    simp only [Option.some.injEq, exists_eq_left']
    split
    · next hj => simp [hj, eq_comm]
    · next hj => simp [hj]

/-- A write that answers nothing is the fault of R24. -/
theorem State.writeReg_error {s : State} {i : RegNum} {v : Word} {e : Stop} (h : s.writeReg i v = .error e) :
    e = .fault .windowOutOfFile := by
  unfold State.writeReg at h
  split at h
  · split at h <;> simp_all
  · simp_all

/-- A register that can be read can be written. -/
theorem State.writeReg_of_readReg {s : State} {i : RegNum} {x : Word} (h : s.readReg i = .ok x) (v : Word) :
    ∃ j, s.physIndex i = some j ∧ j < s.rf.length ∧ s.writeReg i v = .ok { s with rf := s.rf.set j v } := by
  obtain ⟨j, hj, hx⟩ := State.readReg_ok.1 h
  have hlt : j < s.rf.length := (List.getElem?_eq_some_iff.1 hx).1
  exact ⟨j, hj, hlt, State.writeReg_ok.2 ⟨j, hj, hlt, rfl⟩⟩

/-- What was written is what is read, as long as the window and the file's size stay. -/
theorem State.readReg_set {s t : State} {i : RegNum} {j : Nat} {v : Word} (hj : s.physIndex i = some j)
    (hlt : j < s.rf.length) (hrf : t.rf = s.rf.set j v) (hc : t.status.cwp = s.status.cwp) : t.readReg i = .ok v := by
  refine State.readReg_ok.2 ⟨j, ?_, ?_⟩
  · rw [State.physIndex_congr (by simp [hrf]) hc, hj]
  · simp [hrf, hlt]

/-- Two visible registers of one window are two physical registers. -/
theorem State.physIndex_inj {s : State} {a b : RegNum} {j : Nat} (ha : s.physIndex a = some j) (hb : s.physIndex b = some j) :
    a = b := by
  unfold State.physIndex at ha hb
  apply BitVec.eq_of_toNat_eq
  split at ha <;> split at hb <;> (try split at ha) <;> (try split at hb) <;> simp_all <;> omega

/-- Every register of a window inside the file is there. -/
theorem State.readReg_inside {s : State} (h : s.status.cwp.toNat < s.nwin) (i : RegNum) : ∃ v, s.readReg i = .ok v := by
  have hn : 16 * (s.nwin + 1) ≤ s.rf.length := by unfold State.nwin at h ⊢; omega
  have hi := i.isLt
  simp only [State.readReg_ok]
  unfold State.physIndex
  split
  · next hlt => exact ⟨_, _, rfl, List.getElem?_eq_getElem (by omega)⟩
  · exact ⟨_, _, rfl, List.getElem?_eq_getElem (by omega)⟩

/-- A windowed register of a window outside the file stops the read (R24). -/
theorem State.readReg_outside {s : State} {i : RegNum} (hi : 8 ≤ i.toNat) (h : s.nwin ≤ s.status.cwp.toNat) :
    s.readReg i = .error (.fault .windowOutOfFile) := by
  simp [State.readReg, State.physIndex, Nat.not_lt.2 hi, Nat.not_lt.2 h]

end Sys2Proof.Machine
end

