-- ==== Sys2Proof/Laws/Operations.lean ====
section
/-! SUPPORT. For each shared operation, one lemma that says everything it can do: later proofs cite these and unfold
nothing. -/

namespace Sys2Proof.Machine

/-! ## Answers -/

@[simp] theorem bind_ok {α β : Type} (x : α) (f : α → Except Stop β) : (Except.ok x >>= f) = f x := rfl
@[simp] theorem bind_error {α β : Type} (e : Stop) (f : α → Except Stop β) :
    ((Except.error e : Except Stop α) >>= f) = .error e := rfl
@[simp] theorem pure_ok {α : Type} (x : α) : (pure x : Except Stop α) = .ok x := rfl

/-- A sequence of two operations answers only where both do. -/
theorem bind_eq_ok {α β : Type} {m : Except Stop α} {f : α → Except Stop β} {y : β} :
    (m >>= f) = .ok y ↔ ∃ x, m = .ok x ∧ f x = .ok y := by
  cases m <;> simp

@[simp] theorem outcome_ok (s : State) : outcome (.ok s) = .next s := rfl
@[simp] theorem outcome_fault (f : Fault) : outcome (.error (.fault f)) = .fault f := rfl
@[simp] theorem outcome_refusal (r : Refusal) : outcome (.error (.refusal r)) = .refused r := rfl

/-- A next state comes from operations that all answered. -/
theorem outcome_eq_next {m : Except Stop State} {t : State} : outcome m = .next t ↔ m = .ok t := by
  cases m with
  | ok s => simp
  | error e => cases e <;> simp

/-! ## Memory -/

/-- `align32` is the address rounded down to a multiple of 4. -/
theorem align32_toNat (x : Word) : (align32 x).toNat = x.toNat / 4 * 4 := by
  have ones : ∀ i : Fin 32, 2 ≤ i.val → (0xFFFFFFFC#32).getLsbD i.val = true := by decide
  have zeros : ∀ i : Fin 32, i.val < 2 → (0xFFFFFFFC#32).getLsbD i.val = false := by decide
  have h : align32 x = (x >>> 2) <<< 2 := by
    apply BitVec.eq_of_getLsbD_eq
    intro i hi
    simp only [align32, BitVec.getLsbD_and, BitVec.getLsbD_shiftLeft, BitVec.getLsbD_ushiftRight]
    rcases Nat.lt_or_ge i 2 with h2 | h2
    · simp [zeros ⟨i, hi⟩ h2, h2]
    · simp [ones ⟨i, hi⟩ h2, hi, show ¬ i < 2 by omega, show 2 + (i - 2) = i by omega]
  have hx := x.isLt
  rw [h]
  simp only [BitVec.toNat_shiftLeft, BitVec.toNat_ushiftRight, Nat.shiftRight_eq_div_pow, Nat.shiftLeft_eq]
  omega

/-- An aligned word lies inside the address space. -/
theorem align32_bound (x : Word) : (align32 x).toNat + 4 ≤ Config.addressSpace := by
  have := x.isLt
  rw [align32_toNat, Config.addressSpace]
  omega

/-- A word on the bus lies inside the address space. -/
theorem State.wordAddr_bound (s : State) (x : Word) : s.wordAddr x + 4 ≤ Config.addressSpace :=
  Nat.le_trans (Nat.add_le_add_right (Nat.mod_le _ _) 4) (align32_bound x)

/-- With all 32 address bits significant, the bus address of a word is its aligned address. -/
theorem State.wordAddr_full {s : State} (h : s.platform.addrBits = 32) (x : Word) : s.wordAddr x = x.toNat / 4 * 4 := by
  have := x.isLt
  simp only [State.wordAddr, State.busAddr, h, align32_toNat]
  exact Nat.mod_eq_of_lt (by omega)

/-- The bus address of a word is a multiple of 4, however many bits are significant. -/
theorem State.wordAddr_aligned (s : State) (x : Word) : s.wordAddr x % 4 = 0 := by
  simp only [State.wordAddr, State.busAddr, align32_toNat]
  rcases Nat.lt_or_ge s.platform.addrBits 2 with h | h
  · have : s.platform.addrBits = 0 ∨ s.platform.addrBits = 1 := by omega
    rcases this with h | h <;> rw [h] <;> omega
  · rw [Nat.mod_mod_of_dvd _ (by simpa using Nat.pow_dvd_pow 2 h)]
    omega

/-- The four bytes of a word lie in one region. -/
theorem State.kindAt_lane (s : State) (x : Word) {n : Nat} (h : n < 4) :
    s.kindAt (s.wordAddr x + n) = s.kindAt (s.wordAddr x) := by
  have := s.wordAddr_aligned x
  simp only [State.kindAt, show (s.wordAddr x + n) / 4 * 4 = s.wordAddr x / 4 * 4 by omega]

/-- Memory answers a read where the platform has RAM or ROM. -/
theorem State.readPort_memory {s : State} {a : Nat} :
    s.readPort a = .ok .memory ↔ s.kindAt a = some .ram ∨ s.kindAt a = some .rom := by
  unfold State.readPort
  split <;> (try split) <;> simp_all

/-- A device answers a read where the platform has one and defines it. -/
theorem State.readPort_device {s : State} {a : Nat} :
    s.readPort a = .ok .device ↔ ∃ w, s.kindAt a = some (.device true w) := by
  unfold State.readPort
  split <;> (try split) <;> simp_all

/-- Memory answers a write where the platform has RAM. -/
theorem State.writePort_memory {s : State} {a : Nat} : s.writePort a = .ok .memory ↔ s.kindAt a = some .ram := by
  unfold State.writePort
  split <;> (try split) <;> simp_all

/-- A device answers a write where the platform has one and defines it. -/
theorem State.writePort_device {s : State} {a : Nat} :
    s.writePort a = .ok .device ↔ ∃ r, s.kindAt a = some (.device r true) := by
  unfold State.writePort
  split <;> (try split) <;> simp_all

/-- Everything a word read can answer. -/
theorem State.loadWord_ok {s : State} {x : Word} {r : Loaded} :
    s.loadWord x = .ok r ↔
      ∃ p, s.readPort (s.wordAddr x) = .ok p ∧ r.after = s.accessed p (s.wordAddr x) 4 none ∧
        r.value = wordFrom (r.after.answer p) (s.wordAddr x) := by
  simp only [State.loadWord, bind_eq_ok, pure_ok, Except.ok.injEq]
  constructor
  · rintro ⟨p, h, rfl⟩; exact ⟨p, h, rfl, rfl⟩
  · rintro ⟨p, h, ha, hv⟩; exact ⟨p, h, by cases r; simp_all⟩

/-- A word read of memory: the word, and nothing else. -/
theorem State.loadWord_memory {s : State} {x : Word}
    (h : s.kindAt (s.wordAddr x) = some .ram ∨ s.kindAt (s.wordAddr x) = some .rom) :
    s.loadWord x = .ok { value := s.wordAt (s.wordAddr x), after := s } :=
  State.loadWord_ok.2 ⟨.memory, State.readPort_memory.2 h, rfl, rfl⟩

/-- Everything a store can answer. -/
theorem State.storeBytes_ok {s t : State} {a : Nat} {vs : List Byte} :
    s.storeBytes a vs = .ok t ↔ ∃ p, s.writePort a = .ok p ∧ t = s.stored p a vs := by
  simp only [State.storeBytes, bind_eq_ok, pure_ok, Except.ok.injEq]
  constructor
  · rintro ⟨p, h, rfl⟩; exact ⟨p, h, rfl⟩
  · rintro ⟨p, h, rfl⟩; exact ⟨p, h, rfl⟩

/-! ## Registers and the end of an instruction -/

/-- Everything the end of a register-writing instruction can answer. -/
theorem State.retireReg_ok {s t : State} {i : RegNum} {v : Word} {f : Status → Status} :
    s.retireReg i v f = .ok t ↔
      ∃ j, s.physIndex i = some j ∧ j < s.rf.length ∧
        t = (({ s with rf := s.rf.set j v } : State).mapStatus f).retire := by
  simp only [State.retireReg, bind_eq_ok, State.writeReg_ok, pure_ok, Except.ok.injEq]
  constructor
  · rintro ⟨_, ⟨j, hj, hlt, rfl⟩, rfl⟩; exact ⟨j, hj, hlt, rfl⟩
  · rintro ⟨j, hj, hlt, rfl⟩; exact ⟨_, ⟨j, hj, hlt, rfl⟩, rfl⟩

/-! ## Exceptions -/

/-- Everything exception entry can answer. -/
theorem State.exceptionEntry_ok {s t : State} {n : BitVec 6} {ret : Word} {dec : Bool} :
    s.exceptionEntry n ret dec = .ok t ↔
      ¬ (dec = true ∧ s.status.cwp = 0#5) ∧
        ∃ linked handler,
          ({ s with istatus := s.status, status := s.status.entered n dec } : State).writeReg regLink (ret >>> 1)
              = .ok linked ∧
            linked.loadWord (linked.vectorAddr n) = .ok handler ∧ t = handler.after.redirect (handler.value * 2#32) := by
  unfold State.exceptionEntry
  by_cases h : dec = true ∧ s.status.cwp = 0#5
  · simp [h.1, h.2]
  · have hb : (dec && decide (s.status.cwp = 0#5)) = false := by
      cases dec <;> simp_all
    simp only [hb, h, not_false_eq_true, true_and, Bool.false_eq_true, if_false, bind_eq_ok, pure_ok, Except.ok.injEq]
    constructor
    · rintro ⟨l, hl, v, hv, rfl⟩; exact ⟨l, v, hl, hv, rfl⟩
    · rintro ⟨l, v, hl, hv, rfl⟩; exact ⟨l, hl, v, hv, rfl⟩

/-- The control registers that exist (R37). -/
theorem controlOf_none {m : ControlMap} {k : BitVec 11} :
    controlOf m k = none ↔ k ≠ 0#11 ∧ k ≠ m.istatus ∧ k ≠ m.wvalid := by
  unfold controlOf
  split <;> (try split) <;> (try split) <;> simp_all

/-! ## Fetch -/

/-- Everything the fetch can answer. -/
theorem State.fetchBytes_ok {s : State} {f : Fetched} :
    s.fetchBytes = .ok f ↔
      ∃ p, s.readPort s.fetchAddr = .ok p ∧
        s.storedTooLately s.fetchAddr = false ∧ s.storedTooLately (s.fetchAddr + 1) = false ∧
        f.after = s.accessed p s.fetchAddr 2 none ∧ f.bytes = [f.after.answer p s.fetchAddr, f.after.answer p (s.fetchAddr + 1)] := by
  simp only [State.fetchBytes, bind_eq_ok]
  constructor
  · rintro ⟨p, h, hs⟩
    split at hs
    · simp at hs
    · next hn =>
      simp only [Bool.or_eq_true, not_or, Bool.not_eq_true] at hn
      simp only [pure_ok, Except.ok.injEq] at hs
      subst hs
      exact ⟨p, h, hn.1, hn.2, rfl, rfl⟩
  · rintro ⟨p, h, h1, h2, ha, hb⟩
    refine ⟨p, h, ?_⟩
    cases f
    simp_all

/-- Everything fetch and decode can answer: the bytes at `pc`, a listed instruction. -/
theorem State.fetchDecode_ok {s : State} {d : Decoded} :
    s.fetchDecode = .ok d ↔
      ∃ lo hi, s.fetchBytes = .ok { bytes := [lo, hi], after := d.after } ∧ d.word = wordOfBytes lo hi ∧
        decodeWord d.word = .ok d.instr ∧ d.instr.isListed = true := by
  simp only [State.fetchDecode, bind_eq_ok]
  constructor
  · rintro ⟨f, hf, h⟩
    obtain ⟨p, -, -, -, -, hb⟩ := State.fetchBytes_ok.1 hf
    simp only [hb, decodeBytes] at h
    cases hd : decodeWord (wordOfBytes (f.after.answer p s.fetchAddr) (f.after.answer p (s.fetchAddr + 1))) with
    | error e => simp [hd] at h
    | ok j =>
      simp only [hd] at h
      split at h
      · next hl =>
        simp only [pure_ok, Except.ok.injEq] at h
        subst h
        exact ⟨_, _, by rw [hf, ← hb], rfl, hd, hl⟩
      · simp at h
  · rintro ⟨lo, hi, hf, hw, hd, hl⟩
    refine ⟨_, hf, ?_⟩
    cases d
    simp_all [decodeBytes]

/-- The hidden state idle, a request present, enabled, and recognised now: exactly when an interrupt is taken (R256). -/
theorem State.interruptTaken_eq_some {s : State} {n : BitVec 6} :
    s.interruptTaken = some n ↔
      ∃ e rest, s.env = e :: rest ∧ s.idle = true ∧ e.irq = true ∧ e.recognise = true ∧ s.accepts e.irqNumber = true ∧
        n = e.irqNumber := by
  unfold State.interruptTaken
  cases s.env with
  | nil => simp
  | cons e rest =>
    simp only [List.cons.injEq]
    constructor
    · intro h
      split at h
      · next hc =>
        simp only [Bool.and_eq_true] at hc
        exact ⟨e, rest, ⟨rfl, rfl⟩, hc.1.1.1, hc.1.1.2, hc.1.2, hc.2, by simpa using h.symm⟩
      · simp at h
    · rintro ⟨_, _, ⟨rfl, rfl⟩, h1, h2, h3, h4, rfl⟩
      simp [h1, h2, h3, h4]

end Sys2Proof.Machine
end

