-- ==== Sys2Proof/Laws/PerInstr.lean ====
section
/-! SUPPORT. A law proved instruction by instruction: an encoded instruction satisfies the match and mask of the row of the
opcode map that bears its mnemonic (30_encoding.md R101, R103). -/

open Sys2Proof

namespace Sys2Proof.Laws

set_option Elab.async false

/-- The word of `i` lies in the row of `i`'s mnemonic. -/
def EncodingMatchesRow.Statement (i : Instr) : Prop :=
  ∃ r ∈ opcodeMap ++ unusedMap, r.mnemonic = i.mnemonic ∧ encode i &&& r.mask = r.pattern

/-- Masking a word of two parts masks each part. -/
theorem append_mask {m n : Nat} (x u : BitVec m) (y v : BitVec n) : (x ++ y) &&& (u ++ v) = (x &&& u) ++ (y &&& v) := by
  apply BitVec.eq_of_getLsbD_eq
  intro i hi
  simp only [BitVec.getLsbD_and, BitVec.getLsbD_append]
  split <;> rfl

/-- An opcode followed by one field. -/
theorem mask_field {m n : Nat} (h : BitVec m) (x : BitVec n) : (h ++ x) &&& (BitVec.allOnes m ++ 0#n) = h ++ 0#n := by
  simp only [append_mask, BitVec.and_allOnes, BitVec.and_zero]

/-- An opcode followed by two fields. -/
theorem mask_fields {m k n : Nat} (h : BitVec m) (y : BitVec k) (x : BitVec n) :
    (h ++ y ++ x) &&& (BitVec.allOnes m ++ 0#k ++ 0#n) = h ++ 0#k ++ 0#n := by
  simp only [append_mask, BitVec.and_allOnes, BitVec.and_zero]

/-- An opcode followed by three fields. -/
theorem mask_three_fields {m j k n : Nat} (h : BitVec m) (z : BitVec j) (y : BitVec k) (x : BitVec n) :
    (h ++ z ++ y ++ x) &&& (BitVec.allOnes m ++ 0#j ++ 0#k ++ 0#n) = h ++ 0#j ++ 0#k ++ 0#n := by
  simp only [append_mask, BitVec.and_allOnes, BitVec.and_zero]

/-- A field between fixed bits. -/
theorem mask_field_zero {m k n : Nat} (h : BitVec m) (y : BitVec k) (z : BitVec n) :
    (h ++ y ++ z) &&& (BitVec.allOnes m ++ 0#k ++ BitVec.allOnes n) = h ++ 0#k ++ z := by
  simp only [append_mask, BitVec.and_allOnes, BitVec.and_zero]

/-- Two fields with fixed bits between them. -/
theorem mask_field_zero_field {m j k n : Nat} (h : BitVec m) (y : BitVec j) (z : BitVec k) (x : BitVec n) :
    (h ++ y ++ z ++ x) &&& (BitVec.allOnes m ++ 0#j ++ BitVec.allOnes k ++ 0#n) = h ++ 0#j ++ z ++ 0#n := by
  simp only [append_mask, BitVec.and_allOnes, BitVec.and_zero]

theorem EncodingMatchesRow.add (a : BitVec 5) (b : BitVec 5) : Statement (.add a b) :=
  ⟨⟨"ADD", 0b000000#6 ++ 0#5 ++ 0#5, BitVec.allOnes 6 ++ 0#5 ++ 0#5⟩, List.mem_of_getElem? (i := 0) rfl, rfl, mask_fields _ _ _⟩

theorem EncodingMatchesRow.addi (a : BitVec 5) (imm5 : BitVec 5) : Statement (.addi a imm5) :=
  ⟨⟨"ADDI", 0b000001#6 ++ 0#5 ++ 0#5, BitVec.allOnes 6 ++ 0#5 ++ 0#5⟩, List.mem_of_getElem? (i := 1) rfl, rfl, mask_fields _ _ _⟩

theorem EncodingMatchesRow.sub (a : BitVec 5) (b : BitVec 5) : Statement (.sub a b) :=
  ⟨⟨"SUB", 0b000010#6 ++ 0#5 ++ 0#5, BitVec.allOnes 6 ++ 0#5 ++ 0#5⟩, List.mem_of_getElem? (i := 2) rfl, rfl, mask_fields _ _ _⟩

theorem EncodingMatchesRow.subi (a : BitVec 5) (imm5 : BitVec 5) : Statement (.subi a imm5) :=
  ⟨⟨"SUBI", 0b000011#6 ++ 0#5 ++ 0#5, BitVec.allOnes 6 ++ 0#5 ++ 0#5⟩, List.mem_of_getElem? (i := 3) rfl, rfl, mask_fields _ _ _⟩

theorem EncodingMatchesRow.cmp (a : BitVec 5) (b : BitVec 5) : Statement (.cmp a b) :=
  ⟨⟨"CMP", 0b000100#6 ++ 0#5 ++ 0#5, BitVec.allOnes 6 ++ 0#5 ++ 0#5⟩, List.mem_of_getElem? (i := 4) rfl, rfl, mask_fields _ _ _⟩

theorem EncodingMatchesRow.cmpi (a : BitVec 5) (imm5 : BitVec 5) : Statement (.cmpi a imm5) :=
  ⟨⟨"CMPI", 0b000101#6 ++ 0#5 ++ 0#5, BitVec.allOnes 6 ++ 0#5 ++ 0#5⟩, List.mem_of_getElem? (i := 5) rfl, rfl, mask_fields _ _ _⟩

theorem EncodingMatchesRow.lsl (a : BitVec 5) (b : BitVec 5) : Statement (.lsl a b) :=
  ⟨⟨"LSL", 0b000110#6 ++ 0#5 ++ 0#5, BitVec.allOnes 6 ++ 0#5 ++ 0#5⟩, List.mem_of_getElem? (i := 6) rfl, rfl, mask_fields _ _ _⟩

theorem EncodingMatchesRow.lsli (a : BitVec 5) (imm5 : BitVec 5) : Statement (.lsli a imm5) :=
  ⟨⟨"LSLI", 0b000111#6 ++ 0#5 ++ 0#5, BitVec.allOnes 6 ++ 0#5 ++ 0#5⟩, List.mem_of_getElem? (i := 7) rfl, rfl, mask_fields _ _ _⟩

theorem EncodingMatchesRow.lsr (a : BitVec 5) (b : BitVec 5) : Statement (.lsr a b) :=
  ⟨⟨"LSR", 0b001000#6 ++ 0#5 ++ 0#5, BitVec.allOnes 6 ++ 0#5 ++ 0#5⟩, List.mem_of_getElem? (i := 8) rfl, rfl, mask_fields _ _ _⟩

theorem EncodingMatchesRow.lsri (a : BitVec 5) (imm5 : BitVec 5) : Statement (.lsri a imm5) :=
  ⟨⟨"LSRI", 0b001001#6 ++ 0#5 ++ 0#5, BitVec.allOnes 6 ++ 0#5 ++ 0#5⟩, List.mem_of_getElem? (i := 9) rfl, rfl, mask_fields _ _ _⟩

theorem EncodingMatchesRow.asr (a : BitVec 5) (b : BitVec 5) : Statement (.asr a b) :=
  ⟨⟨"ASR", 0b001010#6 ++ 0#5 ++ 0#5, BitVec.allOnes 6 ++ 0#5 ++ 0#5⟩, List.mem_of_getElem? (i := 10) rfl, rfl, mask_fields _ _ _⟩

theorem EncodingMatchesRow.asri (a : BitVec 5) (imm5 : BitVec 5) : Statement (.asri a imm5) :=
  ⟨⟨"ASRI", 0b001011#6 ++ 0#5 ++ 0#5, BitVec.allOnes 6 ++ 0#5 ++ 0#5⟩, List.mem_of_getElem? (i := 11) rfl, rfl, mask_fields _ _ _⟩

theorem EncodingMatchesRow.mov (a : BitVec 5) (b : BitVec 5) : Statement (.mov a b) :=
  ⟨⟨"MOV", 0b001100#6 ++ 0#5 ++ 0#5, BitVec.allOnes 6 ++ 0#5 ++ 0#5⟩, List.mem_of_getElem? (i := 12) rfl, rfl, mask_fields _ _ _⟩

theorem EncodingMatchesRow.movi (a : BitVec 5) (imm5 : BitVec 5) : Statement (.movi a imm5) :=
  ⟨⟨"MOVI", 0b001101#6 ++ 0#5 ++ 0#5, BitVec.allOnes 6 ++ 0#5 ++ 0#5⟩, List.mem_of_getElem? (i := 13) rfl, rfl, mask_fields _ _ _⟩

theorem EncodingMatchesRow.and (a : BitVec 5) (b : BitVec 5) : Statement (.and a b) :=
  ⟨⟨"AND", 0b001110#6 ++ 0#5 ++ 0#5, BitVec.allOnes 6 ++ 0#5 ++ 0#5⟩, List.mem_of_getElem? (i := 14) rfl, rfl, mask_fields _ _ _⟩

theorem EncodingMatchesRow.andn (a : BitVec 5) (b : BitVec 5) : Statement (.andn a b) :=
  ⟨⟨"ANDN", 0b001111#6 ++ 0#5 ++ 0#5, BitVec.allOnes 6 ++ 0#5 ++ 0#5⟩, List.mem_of_getElem? (i := 15) rfl, rfl, mask_fields _ _ _⟩

theorem EncodingMatchesRow.or (a : BitVec 5) (b : BitVec 5) : Statement (.or a b) :=
  ⟨⟨"OR", 0b010000#6 ++ 0#5 ++ 0#5, BitVec.allOnes 6 ++ 0#5 ++ 0#5⟩, List.mem_of_getElem? (i := 16) rfl, rfl, mask_fields _ _ _⟩

theorem EncodingMatchesRow.xor (a : BitVec 5) (b : BitVec 5) : Statement (.xor a b) :=
  ⟨⟨"XOR", 0b010001#6 ++ 0#5 ++ 0#5, BitVec.allOnes 6 ++ 0#5 ++ 0#5⟩, List.mem_of_getElem? (i := 17) rfl, rfl, mask_fields _ _ _⟩

theorem EncodingMatchesRow.bgen (a : BitVec 5) (imm5 : BitVec 5) : Statement (.bgen a imm5) :=
  ⟨⟨"BGEN", 0b010010#6 ++ 0#5 ++ 0#5, BitVec.allOnes 6 ++ 0#5 ++ 0#5⟩, List.mem_of_getElem? (i := 18) rfl, rfl, mask_fields _ _ _⟩

theorem EncodingMatchesRow.ext8d (a : BitVec 5) (b : BitVec 5) : Statement (.ext8d a b) :=
  ⟨⟨"EXT8D", 0b010011#6 ++ 0#5 ++ 0#5, BitVec.allOnes 6 ++ 0#5 ++ 0#5⟩, List.mem_of_getElem? (i := 19) rfl, rfl, mask_fields _ _ _⟩

theorem EncodingMatchesRow.skp0 (a : BitVec 5) (imm5 : BitVec 5) : Statement (.skp0 a imm5) :=
  ⟨⟨"SKP0", 0b010100#6 ++ 0#5 ++ 0#5, BitVec.allOnes 6 ++ 0#5 ++ 0#5⟩, List.mem_of_getElem? (i := 20) rfl, rfl, mask_fields _ _ _⟩

theorem EncodingMatchesRow.skp1 (a : BitVec 5) (imm5 : BitVec 5) : Statement (.skp1 a imm5) :=
  ⟨⟨"SKP1", 0b010101#6 ++ 0#5 ++ 0#5, BitVec.allOnes 6 ++ 0#5 ++ 0#5⟩, List.mem_of_getElem? (i := 21) rfl, rfl, mask_fields _ _ _⟩

theorem EncodingMatchesRow.ld (a : BitVec 5) (b : BitVec 5) : Statement (.ld a b) :=
  ⟨⟨"LD", 0b010110#6 ++ 0#5 ++ 0#5, BitVec.allOnes 6 ++ 0#5 ++ 0#5⟩, List.mem_of_getElem? (i := 22) rfl, rfl, mask_fields _ _ _⟩

theorem EncodingMatchesRow.st (a : BitVec 5) (b : BitVec 5) : Statement (.st a b) :=
  ⟨⟨"ST", 0b010111#6 ++ 0#5 ++ 0#5, BitVec.allOnes 6 ++ 0#5 ++ 0#5⟩, List.mem_of_getElem? (i := 23) rfl, rfl, mask_fields _ _ _⟩

theorem EncodingMatchesRow.sts8s (imm10 : BitVec 10) : Statement (.sts8s imm10) :=
  ⟨⟨"STS8S", 0b011000#6 ++ 0#10, BitVec.allOnes 6 ++ 0#10⟩, List.mem_of_getElem? (i := 24) rfl, rfl, mask_field _ _⟩

theorem EncodingMatchesRow.sts16s (imm9 : BitVec 9) : Statement (.sts16s imm9) :=
  ⟨⟨"STS16S", 0b011001#6 ++ 0#9 ++ 0b0#1, BitVec.allOnes 6 ++ 0#9 ++ BitVec.allOnes 1⟩, List.mem_of_getElem? (i := 25) rfl, rfl, mask_field_zero _ _ _⟩

theorem EncodingMatchesRow.ext16d (a : BitVec 5) (b : BitVec 5) : Statement (.ext16d a b) :=
  ⟨⟨"EXT16D", 0b011010#6 ++ 0#5 ++ 0#5, BitVec.allOnes 6 ++ 0#5 ++ 0#5⟩, List.mem_of_getElem? (i := 26) rfl, rfl, mask_fields _ _ _⟩

theorem EncodingMatchesRow.movhi (a : BitVec 5) (imm5 : BitVec 5) : Statement (.movhi a imm5) :=
  ⟨⟨"MOVHI", 0b011011#6 ++ 0#5 ++ 0#5, BitVec.allOnes 6 ++ 0#5 ++ 0#5⟩, List.mem_of_getElem? (i := 27) rfl, rfl, mask_fields _ _ _⟩

theorem EncodingMatchesRow.usr0 (a : BitVec 5) (b : BitVec 5) : Statement (.usr0 a b) :=
  ⟨⟨"USR0", 0b011100#6 ++ 0#5 ++ 0#5, BitVec.allOnes 6 ++ 0#5 ++ 0#5⟩, List.mem_of_getElem? (i := 28) rfl, rfl, mask_fields _ _ _⟩

theorem EncodingMatchesRow.ext8s (a : BitVec 5) (imm2u : BitVec 2) : Statement (.ext8s a imm2u) :=
  ⟨⟨"EXT8S", 0b011101000#9 ++ 0#2 ++ 0#5, BitVec.allOnes 9 ++ 0#2 ++ 0#5⟩, List.mem_of_getElem? (i := 29) rfl, rfl, mask_fields _ _ _⟩

theorem EncodingMatchesRow.ext16s (a : BitVec 5) (imm1u : BitVec 1) : Statement (.ext16s a imm1u) :=
  ⟨⟨"EXT16S", 0b011101001#9 ++ 0#1 ++ 0b0#1 ++ 0#5, BitVec.allOnes 9 ++ 0#1 ++ BitVec.allOnes 1 ++ 0#5⟩, List.mem_of_getElem? (i := 30) rfl, rfl, mask_field_zero_field _ _ _ _⟩

theorem EncodingMatchesRow.st8s (a : BitVec 5) (imm2u : BitVec 2) : Statement (.st8s a imm2u) :=
  ⟨⟨"ST8S", 0b011101100#9 ++ 0#2 ++ 0#5, BitVec.allOnes 9 ++ 0#2 ++ 0#5⟩, List.mem_of_getElem? (i := 31) rfl, rfl, mask_fields _ _ _⟩

theorem EncodingMatchesRow.st16s (a : BitVec 5) (imm1u : BitVec 1) : Statement (.st16s a imm1u) :=
  ⟨⟨"ST16S", 0b011101101#9 ++ 0#1 ++ 0b0#1 ++ 0#5, BitVec.allOnes 9 ++ 0#1 ++ BitVec.allOnes 1 ++ 0#5⟩, List.mem_of_getElem? (i := 32) rfl, rfl, mask_field_zero_field _ _ _ _⟩

theorem EncodingMatchesRow.save (imm8v : BitVec 8) : Statement (.save imm8v) :=
  ⟨⟨"SAVE", 0b01111000#8 ++ 0#8, BitVec.allOnes 8 ++ 0#8⟩, List.mem_of_getElem? (i := 33) rfl, rfl, mask_field _ _⟩

theorem EncodingMatchesRow.trap (imm6v : BitVec 6) : Statement (.trap imm6v) :=
  ⟨⟨"TRAP", 0b0111100100#10 ++ 0#6, BitVec.allOnes 10 ++ 0#6⟩, List.mem_of_getElem? (i := 34) rfl, rfl, mask_field _ _⟩

theorem EncodingMatchesRow.not (a : BitVec 5) : Statement (.not a) :=
  ⟨⟨"NOT", 0b01111100000#11 ++ 0#5, BitVec.allOnes 11 ++ 0#5⟩, List.mem_of_getElem? (i := 35) rfl, rfl, mask_field _ _⟩

theorem EncodingMatchesRow.neg (a : BitVec 5) : Statement (.neg a) :=
  ⟨⟨"NEG", 0b01111100001#11 ++ 0#5, BitVec.allOnes 11 ++ 0#5⟩, List.mem_of_getElem? (i := 36) rfl, rfl, mask_field _ _⟩

theorem EncodingMatchesRow.abs (a : BitVec 5) : Statement (.abs a) :=
  ⟨⟨"ABS", 0b01111100010#11 ++ 0#5, BitVec.allOnes 11 ++ 0#5⟩, List.mem_of_getElem? (i := 37) rfl, rfl, mask_field _ _⟩

theorem EncodingMatchesRow.sext8 (a : BitVec 5) : Statement (.sext8 a) :=
  ⟨⟨"SEXT8", 0b01111100011#11 ++ 0#5, BitVec.allOnes 11 ++ 0#5⟩, List.mem_of_getElem? (i := 38) rfl, rfl, mask_field _ _⟩

theorem EncodingMatchesRow.sext16 (a : BitVec 5) : Statement (.sext16 a) :=
  ⟨⟨"SEXT16", 0b01111100100#11 ++ 0#5, BitVec.allOnes 11 ++ 0#5⟩, List.mem_of_getElem? (i := 39) rfl, rfl, mask_field _ _⟩

theorem EncodingMatchesRow.rlc (a : BitVec 5) : Statement (.rlc a) :=
  ⟨⟨"RLC", 0b01111100101#11 ++ 0#5, BitVec.allOnes 11 ++ 0#5⟩, List.mem_of_getElem? (i := 40) rfl, rfl, mask_field _ _⟩

theorem EncodingMatchesRow.rrc (a : BitVec 5) : Statement (.rrc a) :=
  ⟨⟨"RRC", 0b01111100110#11 ++ 0#5, BitVec.allOnes 11 ++ 0#5⟩, List.mem_of_getElem? (i := 41) rfl, rfl, mask_field _ _⟩

theorem EncodingMatchesRow.swap (a : BitVec 5) : Statement (.swap a) :=
  ⟨⟨"SWAP", 0b01111101000#11 ++ 0#5, BitVec.allOnes 11 ++ 0#5⟩, List.mem_of_getElem? (i := 42) rfl, rfl, mask_field _ _⟩

theorem EncodingMatchesRow.usr1 (a : BitVec 5) : Statement (.usr1 a) :=
  ⟨⟨"USR1", 0b01111101001#11 ++ 0#5, BitVec.allOnes 11 ++ 0#5⟩, List.mem_of_getElem? (i := 43) rfl, rfl, mask_field _ _⟩

theorem EncodingMatchesRow.usr2 (a : BitVec 5) : Statement (.usr2 a) :=
  ⟨⟨"USR2", 0b01111101010#11 ++ 0#5, BitVec.allOnes 11 ++ 0#5⟩, List.mem_of_getElem? (i := 44) rfl, rfl, mask_field _ _⟩

theorem EncodingMatchesRow.usr3 (a : BitVec 5) : Statement (.usr3 a) :=
  ⟨⟨"USR3", 0b01111101011#11 ++ 0#5, BitVec.allOnes 11 ++ 0#5⟩, List.mem_of_getElem? (i := 45) rfl, rfl, mask_field _ _⟩

theorem EncodingMatchesRow.usr4 (a : BitVec 5) : Statement (.usr4 a) :=
  ⟨⟨"USR4", 0b01111101100#11 ++ 0#5, BitVec.allOnes 11 ++ 0#5⟩, List.mem_of_getElem? (i := 46) rfl, rfl, mask_field _ _⟩

theorem EncodingMatchesRow.restore : Statement (.restore) :=
  ⟨⟨"RESTORE", 0b0111110110100000#16, BitVec.allOnes 16⟩, List.mem_of_getElem? (i := 47) rfl, rfl, rfl⟩

theorem EncodingMatchesRow.tret (a : BitVec 5) : Statement (.tret a) :=
  ⟨⟨"TRET", 0b01111101110#11 ++ 0#5, BitVec.allOnes 11 ++ 0#5⟩, List.mem_of_getElem? (i := 48) rfl, rfl, mask_field _ _⟩

theorem EncodingMatchesRow.st8d (a : BitVec 5) : Statement (.st8d a) :=
  ⟨⟨"ST8D", 0b01111110000#11 ++ 0#5, BitVec.allOnes 11 ++ 0#5⟩, List.mem_of_getElem? (i := 49) rfl, rfl, mask_field _ _⟩

theorem EncodingMatchesRow.st16d (a : BitVec 5) : Statement (.st16d a) :=
  ⟨⟨"ST16D", 0b01111110001#11 ++ 0#5, BitVec.allOnes 11 ++ 0#5⟩, List.mem_of_getElem? (i := 50) rfl, rfl, mask_field _ _⟩

theorem EncodingMatchesRow.fill8 (a : BitVec 5) : Statement (.fill8 a) :=
  ⟨⟨"FILL8", 0b01111110010#11 ++ 0#5, BitVec.allOnes 11 ++ 0#5⟩, List.mem_of_getElem? (i := 51) rfl, rfl, mask_field _ _⟩

theorem EncodingMatchesRow.fill16 (a : BitVec 5) : Statement (.fill16 a) :=
  ⟨⟨"FILL16", 0b01111110011#11 ++ 0#5, BitVec.allOnes 11 ++ 0#5⟩, List.mem_of_getElem? (i := 52) rfl, rfl, mask_field _ _⟩

theorem EncodingMatchesRow.mstep (a : BitVec 5) : Statement (.mstep a) :=
  ⟨⟨"MSTEP", 0b01111110100#11 ++ 0#5, BitVec.allOnes 11 ++ 0#5⟩, List.mem_of_getElem? (i := 53) rfl, rfl, mask_field _ _⟩

theorem EncodingMatchesRow.mul (a : BitVec 5) : Statement (.mul a) :=
  ⟨⟨"MUL", 0b01111110101#11 ++ 0#5, BitVec.allOnes 11 ++ 0#5⟩, List.mem_of_getElem? (i := 54) rfl, rfl, mask_field _ _⟩

theorem EncodingMatchesRow.skprz (a : BitVec 5) : Statement (.skprz a) :=
  ⟨⟨"SKPRZ", 0b01111110110#11 ++ 0#5, BitVec.allOnes 11 ++ 0#5⟩, List.mem_of_getElem? (i := 55) rfl, rfl, mask_field _ _⟩

theorem EncodingMatchesRow.skps (imm4w : BitVec 4) : Statement (.skps imm4w) :=
  ⟨⟨"SKPS", 0b011111101110#12 ++ 0#4, BitVec.allOnes 12 ++ 0#4⟩, List.mem_of_getElem? (i := 56) rfl, rfl, mask_field _ _⟩

theorem EncodingMatchesRow.wrctl (a : BitVec 5) : Statement (.wrctl a) :=
  ⟨⟨"WRCTL", 0b01111111000#11 ++ 0#5, BitVec.allOnes 11 ++ 0#5⟩, List.mem_of_getElem? (i := 57) rfl, rfl, mask_field _ _⟩

theorem EncodingMatchesRow.rdctl (a : BitVec 5) : Statement (.rdctl a) :=
  ⟨⟨"RDCTL", 0b01111111001#11 ++ 0#5, BitVec.allOnes 11 ++ 0#5⟩, List.mem_of_getElem? (i := 58) rfl, rfl, mask_field _ _⟩

theorem EncodingMatchesRow.skprnz (a : BitVec 5) : Statement (.skprnz a) :=
  ⟨⟨"SKPRNZ", 0b01111111010#11 ++ 0#5, BitVec.allOnes 11 ++ 0#5⟩, List.mem_of_getElem? (i := 59) rfl, rfl, mask_field _ _⟩

theorem EncodingMatchesRow.jmp (a : BitVec 5) : Statement (.jmp a) :=
  ⟨⟨"JMP", 0b01111111110#11 ++ 0#5, BitVec.allOnes 11 ++ 0#5⟩, List.mem_of_getElem? (i := 60) rfl, rfl, mask_field _ _⟩

theorem EncodingMatchesRow.call (a : BitVec 5) : Statement (.call a) :=
  ⟨⟨"CALL", 0b01111111111#11 ++ 0#5, BitVec.allOnes 11 ++ 0#5⟩, List.mem_of_getElem? (i := 61) rfl, rfl, mask_field _ _⟩

theorem EncodingMatchesRow.br (imm11 : BitVec 11) : Statement (.br imm11) :=
  ⟨⟨"BR", 0b10000#5 ++ 0#11, BitVec.allOnes 5 ++ 0#11⟩, List.mem_of_getElem? (i := 62) rfl, rfl, mask_field _ _⟩

theorem EncodingMatchesRow.bsr (imm11 : BitVec 11) : Statement (.bsr imm11) :=
  ⟨⟨"BSR", 0b10001#5 ++ 0#11, BitVec.allOnes 5 ++ 0#11⟩, List.mem_of_getElem? (i := 63) rfl, rfl, mask_field _ _⟩

theorem EncodingMatchesRow.pfx (imm11 : BitVec 11) : Statement (.pfx imm11) :=
  ⟨⟨"PFX", 0b10011#5 ++ 0#11, BitVec.allOnes 5 ++ 0#11⟩, List.mem_of_getElem? (i := 64) rfl, rfl, mask_field _ _⟩

theorem EncodingMatchesRow.stp (a : BitVec 5) (p : BitVec 2) (imm5 : BitVec 5) : Statement (.stp a p imm5) :=
  ⟨⟨"STP", 0b1010#4 ++ 0#2 ++ 0#5 ++ 0#5, BitVec.allOnes 4 ++ 0#2 ++ 0#5 ++ 0#5⟩, List.mem_of_getElem? (i := 65) rfl, rfl, mask_three_fields _ _ _ _⟩

theorem EncodingMatchesRow.ldp (a : BitVec 5) (p : BitVec 2) (imm5 : BitVec 5) : Statement (.ldp a p imm5) :=
  ⟨⟨"LDP", 0b1011#4 ++ 0#2 ++ 0#5 ++ 0#5, BitVec.allOnes 4 ++ 0#2 ++ 0#5 ++ 0#5⟩, List.mem_of_getElem? (i := 66) rfl, rfl, mask_three_fields _ _ _ _⟩

theorem EncodingMatchesRow.sts (a : BitVec 5) (imm8 : BitVec 8) : Statement (.sts a imm8) :=
  ⟨⟨"STS", 0b110#3 ++ 0#8 ++ 0#5, BitVec.allOnes 3 ++ 0#8 ++ 0#5⟩, List.mem_of_getElem? (i := 67) rfl, rfl, mask_fields _ _ _⟩

theorem EncodingMatchesRow.lds (a : BitVec 5) (imm8 : BitVec 8) : Statement (.lds a imm8) :=
  ⟨⟨"LDS", 0b111#3 ++ 0#8 ++ 0#5, BitVec.allOnes 3 ++ 0#8 ++ 0#5⟩, List.mem_of_getElem? (i := 68) rfl, rfl, mask_fields _ _ _⟩

theorem EncodingMatchesRow.unused011101010 (x : BitVec 7) : Statement (.unused011101010 x) :=
  ⟨⟨"UNUSED_011101010", 0b011101010#9 ++ 0#7, BitVec.allOnes 9 ++ 0#7⟩, List.mem_of_getElem? (i := 69) rfl, rfl, mask_field _ _⟩

theorem EncodingMatchesRow.unused011101011 (x : BitVec 7) : Statement (.unused011101011 x) :=
  ⟨⟨"UNUSED_011101011", 0b011101011#9 ++ 0#7, BitVec.allOnes 9 ++ 0#7⟩, List.mem_of_getElem? (i := 70) rfl, rfl, mask_field _ _⟩

theorem EncodingMatchesRow.unlisted011101110 (x : BitVec 7) : Statement (.unlisted011101110 x) :=
  ⟨⟨"UNLISTED_011101110", 0b011101110#9 ++ 0#7, BitVec.allOnes 9 ++ 0#7⟩, List.mem_of_getElem? (i := 71) rfl, rfl, mask_field _ _⟩

theorem EncodingMatchesRow.unlisted011101111 (x : BitVec 7) : Statement (.unlisted011101111 x) :=
  ⟨⟨"UNLISTED_011101111", 0b011101111#9 ++ 0#7, BitVec.allOnes 9 ++ 0#7⟩, List.mem_of_getElem? (i := 72) rfl, rfl, mask_field _ _⟩

theorem EncodingMatchesRow.unlisted01111010 (x : BitVec 8) : Statement (.unlisted01111010 x) :=
  ⟨⟨"UNLISTED_01111010", 0b01111010#8 ++ 0#8, BitVec.allOnes 8 ++ 0#8⟩, List.mem_of_getElem? (i := 73) rfl, rfl, mask_field _ _⟩

theorem EncodingMatchesRow.unlisted01111011 (x : BitVec 8) : Statement (.unlisted01111011 x) :=
  ⟨⟨"UNLISTED_01111011", 0b01111011#8 ++ 0#8, BitVec.allOnes 8 ++ 0#8⟩, List.mem_of_getElem? (i := 74) rfl, rfl, mask_field _ _⟩

theorem EncodingMatchesRow.unused01111100111 (x : BitVec 5) : Statement (.unused01111100111 x) :=
  ⟨⟨"UNUSED_01111100111", 0b01111100111#11 ++ 0#5, BitVec.allOnes 11 ++ 0#5⟩, List.mem_of_getElem? (i := 75) rfl, rfl, mask_field _ _⟩

theorem EncodingMatchesRow.unused01111101111 (x : BitVec 5) : Statement (.unused01111101111 x) :=
  ⟨⟨"UNUSED_01111101111", 0b01111101111#11 ++ 0#5, BitVec.allOnes 11 ++ 0#5⟩, List.mem_of_getElem? (i := 76) rfl, rfl, mask_field _ _⟩

theorem EncodingMatchesRow.unused01111111011 (x : BitVec 5) : Statement (.unused01111111011 x) :=
  ⟨⟨"UNUSED_01111111011", 0b01111111011#11 ++ 0#5, BitVec.allOnes 11 ++ 0#5⟩, List.mem_of_getElem? (i := 77) rfl, rfl, mask_field _ _⟩

theorem EncodingMatchesRow.unused01111111100 (x : BitVec 5) : Statement (.unused01111111100 x) :=
  ⟨⟨"UNUSED_01111111100", 0b01111111100#11 ++ 0#5, BitVec.allOnes 11 ++ 0#5⟩, List.mem_of_getElem? (i := 78) rfl, rfl, mask_field _ _⟩

theorem EncodingMatchesRow.unused01111111101 (x : BitVec 5) : Statement (.unused01111111101 x) :=
  ⟨⟨"UNUSED_01111111101", 0b01111111101#11 ++ 0#5, BitVec.allOnes 11 ++ 0#5⟩, List.mem_of_getElem? (i := 79) rfl, rfl, mask_field _ _⟩

theorem EncodingMatchesRow.unlisted10010 (x : BitVec 11) : Statement (.unlisted10010 x) :=
  ⟨⟨"UNLISTED_10010", 0b10010#5 ++ 0#11, BitVec.allOnes 5 ++ 0#11⟩, List.mem_of_getElem? (i := 80) rfl, rfl, mask_field _ _⟩

end Sys2Proof.Laws
end

