-- ==== Sys2Proof/Tests/Slice0.lean ====
section
/-! SUPPORT. Small tests: words written out from the encodings of 30_encoding.md, ill-formed terms, one-step vectors of
95_test_vectors.md (each test names its vector), and for each obligation with hypotheses a state that meets them. -/

open Sys2Proof Sys2Proof.Machine

namespace Sys2Proof.Tests

set_option Elab.async false

/-! ## Well-formedness -/

theorem test_wellFormed_skps_13 : (Instr.skps 13#4).wellFormed = true := by decide
theorem test_wellFormed_skps_14_refused : (Instr.skps 14#4).wellFormed = false := by decide
theorem test_wellFormed_skps_15_refused : (Instr.skps 15#4).wellFormed = false := by decide
theorem test_wellFormed_unlisted_row_refused : (Instr.unlisted10010 0#11).wellFormed = false := by decide
theorem test_wellFormed_unused_row_refused : (Instr.unused01111111101 3#5).wellFormed = false := by decide

/-! ## Decoding: the encoding of each row, written out with its fields -/

theorem test_decode_add : decodeWord 0b0000001100100110#16 = .ok (.add 6#5 25#5) := by decide
theorem test_decode_addi : decodeWord 0b0000011001100110#16 = .ok (.addi 6#5 19#5) := by decide
theorem test_decode_sub : decodeWord 0b0000101100100110#16 = .ok (.sub 6#5 25#5) := by decide
theorem test_decode_subi : decodeWord 0b0000111001100110#16 = .ok (.subi 6#5 19#5) := by decide
theorem test_decode_cmp : decodeWord 0b0001001100100110#16 = .ok (.cmp 6#5 25#5) := by decide
theorem test_decode_cmpi : decodeWord 0b0001011001100110#16 = .ok (.cmpi 6#5 19#5) := by decide
theorem test_decode_lsl : decodeWord 0b0001101100100110#16 = .ok (.lsl 6#5 25#5) := by decide
theorem test_decode_lsli : decodeWord 0b0001111001100110#16 = .ok (.lsli 6#5 19#5) := by decide
theorem test_decode_lsr : decodeWord 0b0010001100100110#16 = .ok (.lsr 6#5 25#5) := by decide
theorem test_decode_lsri : decodeWord 0b0010011001100110#16 = .ok (.lsri 6#5 19#5) := by decide
theorem test_decode_asr : decodeWord 0b0010101100100110#16 = .ok (.asr 6#5 25#5) := by decide
theorem test_decode_asri : decodeWord 0b0010111001100110#16 = .ok (.asri 6#5 19#5) := by decide
theorem test_decode_mov : decodeWord 0b0011001100100110#16 = .ok (.mov 6#5 25#5) := by decide
theorem test_decode_movi : decodeWord 0b0011011001100110#16 = .ok (.movi 6#5 19#5) := by decide
theorem test_decode_and : decodeWord 0b0011101100100110#16 = .ok (.and 6#5 25#5) := by decide
theorem test_decode_andn : decodeWord 0b0011111100100110#16 = .ok (.andn 6#5 25#5) := by decide
theorem test_decode_or : decodeWord 0b0100001100100110#16 = .ok (.or 6#5 25#5) := by decide
theorem test_decode_xor : decodeWord 0b0100011100100110#16 = .ok (.xor 6#5 25#5) := by decide
theorem test_decode_bgen : decodeWord 0b0100101001100110#16 = .ok (.bgen 6#5 19#5) := by decide
theorem test_decode_ext8d : decodeWord 0b0100111100100110#16 = .ok (.ext8d 6#5 25#5) := by decide
theorem test_decode_skp0 : decodeWord 0b0101001001100110#16 = .ok (.skp0 6#5 19#5) := by decide
theorem test_decode_skp1 : decodeWord 0b0101011001100110#16 = .ok (.skp1 6#5 19#5) := by decide
theorem test_decode_ld : decodeWord 0b0101101100100110#16 = .ok (.ld 6#5 25#5) := by decide
theorem test_decode_st : decodeWord 0b0101111100100110#16 = .ok (.st 6#5 25#5) := by decide
theorem test_decode_sts8s : decodeWord 0b0110001000000110#16 = .ok (.sts8s 518#10) := by decide
theorem test_decode_sts16s : decodeWord 0b0110011000000110#16 = .ok (.sts16s 259#9) := by decide
theorem test_decode_ext16d : decodeWord 0b0110101100100110#16 = .ok (.ext16d 6#5 25#5) := by decide
theorem test_decode_movhi : decodeWord 0b0110111001100110#16 = .ok (.movhi 6#5 19#5) := by decide
theorem test_decode_usr0 : decodeWord 0b0111001100100110#16 = .ok (.usr0 6#5 25#5) := by decide
theorem test_decode_ext8s : decodeWord 0b0111010001000110#16 = .ok (.ext8s 6#5 2#2) := by decide
theorem test_decode_ext16s : decodeWord 0b0111010011000110#16 = .ok (.ext16s 6#5 1#1) := by decide
theorem test_decode_st8s : decodeWord 0b0111011001000110#16 = .ok (.st8s 6#5 2#2) := by decide
theorem test_decode_st16s : decodeWord 0b0111011011000110#16 = .ok (.st16s 6#5 1#1) := by decide
theorem test_decode_save : decodeWord 0b0111100010000101#16 = .ok (.save 133#8) := by decide
theorem test_decode_trap : decodeWord 0b0111100100100011#16 = .ok (.trap 35#6) := by decide
theorem test_decode_not : decodeWord 0b0111110000000110#16 = .ok (.not 6#5) := by decide
theorem test_decode_neg : decodeWord 0b0111110000100110#16 = .ok (.neg 6#5) := by decide
theorem test_decode_abs : decodeWord 0b0111110001000110#16 = .ok (.abs 6#5) := by decide
theorem test_decode_sext8 : decodeWord 0b0111110001100110#16 = .ok (.sext8 6#5) := by decide
theorem test_decode_sext16 : decodeWord 0b0111110010000110#16 = .ok (.sext16 6#5) := by decide
theorem test_decode_rlc : decodeWord 0b0111110010100110#16 = .ok (.rlc 6#5) := by decide
theorem test_decode_rrc : decodeWord 0b0111110011000110#16 = .ok (.rrc 6#5) := by decide
theorem test_decode_swap : decodeWord 0b0111110100000110#16 = .ok (.swap 6#5) := by decide
theorem test_decode_usr1 : decodeWord 0b0111110100100110#16 = .ok (.usr1 6#5) := by decide
theorem test_decode_usr2 : decodeWord 0b0111110101000110#16 = .ok (.usr2 6#5) := by decide
theorem test_decode_usr3 : decodeWord 0b0111110101100110#16 = .ok (.usr3 6#5) := by decide
theorem test_decode_usr4 : decodeWord 0b0111110110000110#16 = .ok (.usr4 6#5) := by decide
theorem test_decode_restore : decodeWord 0b0111110110100000#16 = .ok (.restore) := by decide
theorem test_decode_tret : decodeWord 0b0111110111000110#16 = .ok (.tret 6#5) := by decide
theorem test_decode_st8d : decodeWord 0b0111111000000110#16 = .ok (.st8d 6#5) := by decide
theorem test_decode_st16d : decodeWord 0b0111111000100110#16 = .ok (.st16d 6#5) := by decide
theorem test_decode_fill8 : decodeWord 0b0111111001000110#16 = .ok (.fill8 6#5) := by decide
theorem test_decode_fill16 : decodeWord 0b0111111001100110#16 = .ok (.fill16 6#5) := by decide
theorem test_decode_mstep : decodeWord 0b0111111010000110#16 = .ok (.mstep 6#5) := by decide
theorem test_decode_mul : decodeWord 0b0111111010100110#16 = .ok (.mul 6#5) := by decide
theorem test_decode_skprz : decodeWord 0b0111111011000110#16 = .ok (.skprz 6#5) := by decide
theorem test_decode_skps : decodeWord 0b0111111011101010#16 = .ok (.skps 10#4) := by decide
theorem test_decode_wrctl : decodeWord 0b0111111100000110#16 = .ok (.wrctl 6#5) := by decide
theorem test_decode_rdctl : decodeWord 0b0111111100100110#16 = .ok (.rdctl 6#5) := by decide
theorem test_decode_skprnz : decodeWord 0b0111111101000110#16 = .ok (.skprnz 6#5) := by decide
theorem test_decode_jmp : decodeWord 0b0111111111000110#16 = .ok (.jmp 6#5) := by decide
theorem test_decode_call : decodeWord 0b0111111111100110#16 = .ok (.call 6#5) := by decide
theorem test_decode_br : decodeWord 0b1000010000000101#16 = .ok (.br 1029#11) := by decide
theorem test_decode_bsr : decodeWord 0b1000110000000101#16 = .ok (.bsr 1029#11) := by decide
theorem test_decode_pfx : decodeWord 0b1001110000000101#16 = .ok (.pfx 1029#11) := by decide
theorem test_decode_stp : decodeWord 0b1010101001100110#16 = .ok (.stp 6#5 2#2 19#5) := by decide
theorem test_decode_ldp : decodeWord 0b1011101001100110#16 = .ok (.ldp 6#5 2#2 19#5) := by decide
theorem test_decode_sts : decodeWord 0b1101010000100110#16 = .ok (.sts 6#5 161#8) := by decide
theorem test_decode_lds : decodeWord 0b1111010000100110#16 = .ok (.lds 6#5 161#8) := by decide
theorem test_decode_unused011101010 : decodeWord 0b0111010101011011#16 = .ok (.unused011101010 91#7) := by decide
theorem test_decode_unused011101011 : decodeWord 0b0111010111011011#16 = .ok (.unused011101011 91#7) := by decide
theorem test_decode_unlisted011101110 : decodeWord 0b0111011101011011#16 = .ok (.unlisted011101110 91#7) := by decide
theorem test_decode_unlisted011101111 : decodeWord 0b0111011111011011#16 = .ok (.unlisted011101111 91#7) := by decide
theorem test_decode_unlisted01111010 : decodeWord 0b0111101010110110#16 = .ok (.unlisted01111010 182#8) := by decide
theorem test_decode_unlisted01111011 : decodeWord 0b0111101110110110#16 = .ok (.unlisted01111011 182#8) := by decide
theorem test_decode_unused01111100111 : decodeWord 0b0111110011110110#16 = .ok (.unused01111100111 22#5) := by decide
theorem test_decode_unused01111101111 : decodeWord 0b0111110111110110#16 = .ok (.unused01111101111 22#5) := by decide
theorem test_decode_unused01111111011 : decodeWord 0b0111111101110110#16 = .ok (.unused01111111011 22#5) := by decide
theorem test_decode_unused01111111100 : decodeWord 0b0111111110010110#16 = .ok (.unused01111111100 22#5) := by decide
theorem test_decode_unused01111111101 : decodeWord 0b0111111110110110#16 = .ok (.unused01111111101 22#5) := by decide
theorem test_decode_unlisted10010 : decodeWord 0b1001010110110101#16 = .ok (.unlisted10010 1461#11) := by decide
theorem test_decode_nop : decodeWord 0b0011000000000000#16 = .ok (.mov 0#5 0#5) := by decide
theorem test_decode_must_be_zero :
    decodeWord 0b0110010000000001#16 = .error .mustBeZero ∧ decodeWord 0b0111010010100000#16 = .error .mustBeZero ∧
    decodeWord 0b0111011010100000#16 = .error .mustBeZero ∧ decodeWord 0b0111100101000000#16 = .error .mustBeZero ∧
    decodeWord 0b0111110110100001#16 = .error .mustBeZero ∧ decodeWord 0b0111111011110000#16 = .error .mustBeZero := by decide
theorem test_decode_bytes_little_endian : decodeBytes [0x41#8, 0x08#8, 0xFF#8] = .ok (.sub 1#5 2#5, [0xFF#8]) := by decide
theorem test_decode_truncated : decodeBytes [0x41#8] = .error .truncated := by decide
theorem test_decodeTableWord_sub : decodeTableWord 16 0x0841 = some (.sub 1#5 2#5) := by decide

/-! ## One step from a small state: the vectors of 95_test_vectors.md -/

/-- The machine after reset with the visible registers `regs` set. -/
def start (regs : List (RegNum × Word)) : State :=
  regs.foldl (fun s p => match s.writeReg p.1 p.2 with
    | .ok t => t
    | .error _ => s) State.reset

/-- STATUS from the value RDCTL reads, in the layout of R33. -/
def statusOf (x : Word) : Status := Status.unpack x statusLayoutDefault

/-- One step that runs the word `w`. -/
def oneStep (s : State) (w : Nat) : Result := step (s.withFetchWord 16 w)

/-- The step answered a next state, and `p` holds of it. -/
def after (r : Result) (p : State → Bool) : Bool :=
  match r with
  | .next t => p t
  | .fault _ => false
  | .refused _ => false

/-- `%r i` holds `v`. -/
def holds (t : State) (i : RegNum) (v : Word) : Bool := decide (t.readReg i = .ok v)

/-- The flags N, V, C, Z in the order 95_test_vectors.md writes them. -/
def nvcz (t : State) : BitVec 4 :=
  BitVec.ofBool t.status.n ++ BitVec.ofBool t.status.v ++ BitVec.ofBool t.status.c ++ BitVec.ofBool t.status.z

/-- A1 -/
theorem test_add_overflow :
    after (oneStep (start [(1#5, 0x7FFFFFFF#32), (2#5, 0x00000001#32)]) 0x0041) (fun t => holds t 1#5 0x80000000#32 && nvcz t == 0b1100#4) = true := by decide +kernel

/-- A2 -/
theorem test_add_carry :
    after (oneStep (start [(1#5, 0x80000000#32), (2#5, 0x80000000#32)]) 0x0041) (fun t => holds t 1#5 0x00000000#32 && nvcz t == 0b0111#4) = true := by decide +kernel

/-- A5, second step -/
theorem test_addi_with_prefix :
    after (oneStep { start [(1#5, 0x00000001#32)] with k := 0x7FF#11, pfx := true } 0x07E1) (fun t => holds t 1#5 0x00010000#32 && nvcz t == 0b0000#4 && t.k == 0#11 && !t.pfx) = true := by decide +kernel

/-- A6 -/
theorem test_sub_borrow :
    after (oneStep (start [(1#5, 0x00000003#32), (2#5, 0x00000005#32)]) 0x0841) (fun t => holds t 1#5 0xFFFFFFFE#32 && nvcz t == 0b1010#4) = true := by decide +kernel

/-- A8 -/
theorem test_subi_zero :
    after (oneStep (start [(1#5, 0x00000001#32)]) 0x0C21) (fun t => holds t 1#5 0x00000000#32 && nvcz t == 0b0001#4) = true := by decide +kernel

/-- A11 -/
theorem test_cmp_signed_less :
    after (oneStep (start [(1#5, 0xFFFFFFFF#32), (2#5, 0x00000001#32)]) 0x1041) (fun t => holds t 1#5 0xFFFFFFFF#32 && nvcz t == 0b1000#4) = true := by decide +kernel

/-- A12 -/
theorem test_cmpi_borrow :
    after (oneStep (start [(1#5, 0x00000003#32)]) 0x14A1) (fun t => holds t 1#5 0x00000003#32 && nvcz t == 0b1010#4) = true := by decide +kernel

/-- A15 -/
theorem test_neg_most_negative :
    after (oneStep (start [(1#5, 0x80000000#32)]) 0x7C21) (fun t => holds t 1#5 0x80000000#32 && nvcz t == 0b0000#4) = true := by decide +kernel

/-- A16 -/
theorem test_abs_negative :
    after (oneStep (start [(1#5, 0xFFFFFFFB#32)]) 0x7C41) (fun t => holds t 1#5 0x00000005#32 && nvcz t == 0b0000#4) = true := by decide +kernel

/-- A18 -/
theorem test_mstep_adds :
    after (oneStep (start [(0#5, 0x80000001#32), (1#5, 0x00000003#32)]) 0x7E81) (fun t => holds t 0#5 0x00000005#32) = true := by decide +kernel

/-- A20 -/
theorem test_mul_low_halves :
    after (oneStep (start [(0#5, 0x0001FFFF#32), (1#5, 0xABCD0002#32)]) 0x7EA1) (fun t => holds t 0#5 0x0001FFFE#32) = true := by decide +kernel

/-- L1 -/
theorem test_and_register :
    after (oneStep (start [(1#5, 0x12345678#32), (2#5, 0x000000FF#32)]) 0x3841) (fun t => holds t 1#5 0x00000078#32 && nvcz t == 0b0000#4) = true := by decide +kernel

/-- L2, second step -/
theorem test_and_immediate :
    after (oneStep { start [(1#5, 0x12345678#32)] with k := 0x7FF#11, pfx := true } 0x3BE1) (fun t => holds t 1#5 0x00005678#32) = true := by decide +kernel

/-- L4 -/
theorem test_andn_negative :
    after (oneStep (start [(1#5, 0xFFFFFFFF#32), (2#5, 0x0000FF00#32)]) 0x3C41) (fun t => holds t 1#5 0xFFFF00FF#32 && nvcz t == 0b1000#4) = true := by decide +kernel

/-- L5 -/
theorem test_or_register :
    after (oneStep (start [(1#5, 0x0000000F#32), (2#5, 0x000000F0#32)]) 0x4041) (fun t => holds t 1#5 0x000000FF#32) = true := by decide +kernel

/-- L6, second step -/
theorem test_or_immediate_by_pfx_alone :
    after (oneStep { start [(2#5, 0x00000007#32)] with pfx := true } 0x4041) (fun t => holds t 1#5 0x00000002#32) = true := by decide +kernel

/-- L7 -/
theorem test_xor_register :
    after (oneStep (start [(1#5, 0x000000FF#32), (2#5, 0x0000000F#32)]) 0x4441) (fun t => holds t 1#5 0x000000F0#32) = true := by decide +kernel

/-- L9 -/
theorem test_not_keeps_flags :
    after (oneStep (start [(1#5, 0x0000FFFF#32)]) 0x7C01) (fun t => holds t 1#5 0xFFFF0000#32 && nvcz t == 0b0000#4) = true := by decide +kernel

/-- L10 -/
theorem test_lsl_count_modulo_32 :
    after (oneStep (start [(1#5, 0x80000001#32), (2#5, 0x00000024#32)]) 0x1841) (fun t => holds t 1#5 0x00000010#32) = true := by decide +kernel

/-- L11 -/
theorem test_lsli_31 :
    after (oneStep (start [(1#5, 0x00000003#32)]) 0x1FE1) (fun t => holds t 1#5 0x80000000#32) = true := by decide +kernel

/-- L12 -/
theorem test_lsr_31 :
    after (oneStep (start [(1#5, 0x80000000#32), (2#5, 0x0000001F#32)]) 0x2041) (fun t => holds t 1#5 0x00000001#32) = true := by decide +kernel

/-- L13 -/
theorem test_lsri_31 :
    after (oneStep (start [(1#5, 0x80000000#32)]) 0x27E1) (fun t => holds t 1#5 0x00000001#32) = true := by decide +kernel

/-- L14 -/
theorem test_asr_sign :
    after (oneStep (start [(1#5, 0x80000000#32), (2#5, 0x00000004#32)]) 0x2841) (fun t => holds t 1#5 0xF8000000#32) = true := by decide +kernel

/-- L15 -/
theorem test_asri_31 :
    after (oneStep (start [(1#5, 0x80000000#32)]) 0x2FE1) (fun t => holds t 1#5 0xFFFFFFFF#32) = true := by decide +kernel

/-- L17 -/
theorem test_rlc_carry_out :
    after (oneStep (start [(1#5, 0x80000001#32)]) 0x7CA1) (fun t => holds t 1#5 0x00000002#32 && nvcz t == 0b0010#4) = true := by decide +kernel

/-- L20 -/
theorem test_rrc_carry_in :
    after (oneStep { start [(1#5, 0x00000002#32)] with status := { State.reset.status with c := true } } 0x7CC1) (fun t => holds t 1#5 0x80000001#32 && nvcz t == 0b0000#4) = true := by decide +kernel

/-- M1, first step -/
theorem test_pfx_sets_k :
    after (oneStep (start []) 0x9A91) (fun t => t.k == 0x291#11 && t.pfx && t.pc == 0x102#32) = true := by decide +kernel

/-- M1, second step -/
theorem test_movi_with_prefix :
    after (oneStep { start [] with k := 0x291#11, pfx := true } 0x3481) (fun t => holds t 1#5 0x00005224#32) = true := by decide +kernel

/-- M4 -/
theorem test_movhi_keeps_low_half :
    after (oneStep (start [(1#5, 0xAAAA5555#32)]) 0x6C61) (fun t => holds t 1#5 0x00035555#32) = true := by decide +kernel

/-- M5 -/
theorem test_mov :
    after (oneStep (start [(2#5, 0xDEADBEEF#32)]) 0x3041) (fun t => holds t 1#5 0xDEADBEEF#32 && holds t 2#5 0xDEADBEEF#32) = true := by decide +kernel

/-- M6 -/
theorem test_bgen_31 :
    after (oneStep (start []) 0x4BE1) (fun t => holds t 1#5 0x80000000#32) = true := by decide +kernel

/-- X3 -/
theorem test_ext8d_same_register :
    after (oneStep (start [(1#5, 0x44332211#32)]) 0x4C21) (fun t => holds t 1#5 0x00000022#32) = true := by decide +kernel

/-- X4 -/
theorem test_ext8s_lane_2 :
    after (oneStep (start [(1#5, 0x44332211#32)]) 0x7441) (fun t => holds t 1#5 0x00000033#32) = true := by decide +kernel

/-- X5 -/
theorem test_ext16d_high :
    after (oneStep (start [(1#5, 0x44332211#32), (2#5, 0x00001002#32)]) 0x6841) (fun t => holds t 1#5 0x00004433#32) = true := by decide +kernel

/-- X6 -/
theorem test_ext16s_high :
    after (oneStep (start [(1#5, 0x44332211#32)]) 0x74C1) (fun t => holds t 1#5 0x00004433#32) = true := by decide +kernel

/-- X7 -/
theorem test_sext8_negative :
    after (oneStep (start [(1#5, 0x12345680#32)]) 0x7C61) (fun t => holds t 1#5 0xFFFFFF80#32) = true := by decide +kernel

/-- X8 -/
theorem test_sext16_negative :
    after (oneStep (start [(1#5, 0x12348000#32)]) 0x7C81) (fun t => holds t 1#5 0xFFFF8000#32) = true := by decide +kernel

/-- X9 -/
theorem test_swap :
    after (oneStep (start [(1#5, 0x11223344#32)]) 0x7D01) (fun t => holds t 1#5 0x33441122#32) = true := by decide +kernel

/-- X10 -/
theorem test_fill8 :
    after (oneStep (start [(1#5, 0x000000AB#32)]) 0x7E41) (fun t => holds t 0#5 0xABABABAB#32 && holds t 1#5 0x000000AB#32) = true := by decide +kernel

/-- X11 -/
theorem test_fill16 :
    after (oneStep (start [(1#5, 0x0000BEEF#32)]) 0x7E61) (fun t => holds t 0#5 0xBEEFBEEF#32) = true := by decide +kernel

/-- D1 -/
theorem test_ld_ignores_low_address_bits :
    after (oneStep { start [(2#5, 0x00001002#32)] with mem := Memory.writeAll [] 0x1000 [0x11#8, 0x22#8, 0x33#8, 0x44#8] } 0x5841) (fun t => holds t 1#5 0x44332211#32) = true := by decide +kernel

/-- D2, second step: K is -1 word -/
theorem test_ld_negative_offset :
    after (oneStep { start [(2#5, 0x00001006#32)] with mem := Memory.writeAll [] 0x1000 [0x11#8, 0x22#8, 0x33#8, 0x44#8], k := 0x7FF#11, pfx := true } 0x5841) (fun t => holds t 1#5 0x44332211#32) = true := by decide +kernel

/-- D4 -/
theorem test_st :
    after (oneStep (start [(1#5, 0xDEADBEEF#32), (2#5, 0x00002000#32)]) 0x5C41) (fun t => t.wordAt 0x2000 == 0xDEADBEEF#32 && t.byteAt 0x2000 == 0xEF#8) = true := by decide +kernel

/-- D5, with the word at 0x1000 -/
theorem test_ldp :
    after (oneStep { start [(18#5, 0x00000FEC#32)] with mem := Memory.writeAll [] 0x1000 [0x11#8, 0x22#8, 0x33#8, 0x44#8] } 0xB8A1) (fun t => holds t 1#5 0x44332211#32) = true := by decide +kernel

/-- D7 -/
theorem test_stp :
    after (oneStep (start [(18#5, 0x00003000#32), (1#5, 0x00000009#32)]) 0xA8A1) (fun t => t.wordAt 0x3014 == 0x00000009#32) = true := by decide +kernel

/-- D8, with the word at 0x1000 -/
theorem test_lds :
    after (oneStep { start [(14#5, 0x00000FF4#32)] with mem := Memory.writeAll [] 0x1000 [0x11#8, 0x22#8, 0x33#8, 0x44#8] } 0xE061) (fun t => holds t 1#5 0x44332211#32) = true := by decide +kernel

/-- D10 -/
theorem test_sts :
    after (oneStep (start [(14#5, 0x00008000#32), (1#5, 0x00000066#32)]) 0xC061) (fun t => t.wordAt 0x800C == 0x00000066#32) = true := by decide +kernel

/-- D11 -/
theorem test_st8d_lane_2 :
    after (oneStep { start [(0#5, 0xABABABAB#32), (1#5, 0x00001002#32)] with mem := Memory.writeAll [] 0x1000 [0x11#8, 0x22#8, 0x33#8, 0x44#8] } 0x7E01) (fun t => t.wordAt 0x1000 == 0x44AB2211#32) = true := by decide +kernel

/-- D12 -/
theorem test_st8s_lane_2 :
    after (oneStep { start [(0#5, 0xA3A2A1A0#32), (1#5, 0x00001000#32)] with mem := Memory.writeAll [] 0x1000 [0x11#8, 0x22#8, 0x33#8, 0x44#8] } 0x7641) (fun t => t.wordAt 0x1000 == 0x44A22211#32) = true := by decide +kernel

/-- D13 -/
theorem test_st16d_high :
    after (oneStep { start [(0#5, 0xBEEFBEEF#32), (1#5, 0x00001002#32)] with mem := Memory.writeAll [] 0x1000 [0x11#8, 0x22#8, 0x33#8, 0x44#8] } 0x7E21) (fun t => t.wordAt 0x1000 == 0xBEEF2211#32) = true := by decide +kernel

/-- D14 -/
theorem test_st16s_high :
    after (oneStep { start [(0#5, 0xAAAABBBB#32), (1#5, 0x00001000#32)] with mem := Memory.writeAll [] 0x1000 [0x11#8, 0x22#8, 0x33#8, 0x44#8] } 0x76C1) (fun t => t.wordAt 0x1000 == 0xAAAA2211#32) = true := by decide +kernel

/-- D16 -/
theorem test_sts8s_lane_from_immediate :
    after (oneStep (start [(14#5, 0x00008002#32), (0#5, 0xA3A2A1A0#32)]) 0x6002) (fun t => t.wordAt 0x8004 == 0x00A20000#32) = true := by decide +kernel

/-- D17 -/
theorem test_sts16s :
    after (oneStep (start [(14#5, 0x00008000#32), (0#5, 0xBEEFBEEF#32)]) 0x640A) (fun t => t.wordAt 0x8008 == 0xBEEF0000#32) = true := by decide +kernel

/-- K3 -/
theorem test_skp1_holds :
    after (oneStep (start [(1#5, 0x00000004#32)]) 0x5441) (fun t => t.skip) = true := by decide +kernel

/-- K1 -/
theorem test_skp0_does_not_hold :
    after (oneStep (start [(1#5, 0x00000004#32)]) 0x5041) (fun t => !t.skip) = true := by decide +kernel

/-- K4 -/
theorem test_skprz_zero :
    after (oneStep (start []) 0x7EC3) (fun t => t.skip) = true := by decide +kernel

/-- K4 -/
theorem test_skprnz_zero :
    after (oneStep (start []) 0x7F43) (fun t => !t.skip) = true := by decide +kernel

/-- K5 -/
theorem test_skps_z :
    after (oneStep { start [] with status := { State.reset.status with z := true } } 0x7EE2) (fun t => t.skip) = true := by decide +kernel

/-- K6, second step -/
theorem test_cancelled_prefix_keeps_skip :
    after (oneStep { start [] with skip := true } 0x9810) (fun t => t.skip && t.k == 0#11 && !t.pfx) = true := by decide +kernel

/-- K6, third step -/
theorem test_cancelled_instruction_has_no_effect :
    after (oneStep { start [] with skip := true } 0x3422) (fun t => !t.skip && holds t 2#5 0x00000000#32) = true := by decide +kernel

/-- T1, first step -/
theorem test_br_pending_target :
    after (oneStep (start []) 0x8003) (fun t => t.btarget == some 0x108#32 && t.pc == 0x102#32) = true := by decide +kernel

/-- T1, second step -/
theorem test_slot_continues_at_target :
    after (oneStep { start [] with btarget := some 0x108#32 } 0x3000) (fun t => t.btarget == none && t.pc == 0x108#32) = true := by decide +kernel

/-- S3 -/
theorem test_br_farthest_back :
    after (oneStep { start [] with pc := 0x1000#32 } 0x8400) (fun t => t.btarget == some 0x802#32) = true := by decide +kernel

/-- T5, first step -/
theorem test_bsr_links :
    after (oneStep { start [] with pc := 0x200#32 } 0x8810) (fun t => t.btarget == some 0x222#32 && holds t 15#5 0x00000102#32) = true := by decide +kernel

/-- T7 -/
theorem test_jmp_loses_bit_31 :
    after (oneStep (start [(1#5, 0x80000040#32)]) 0x7FC1) (fun t => t.btarget == some 0x80#32) = true := by decide +kernel

/-- T8 -/
theorem test_call_links :
    after (oneStep { start [(1#5, 0x00000800#32)] with pc := 0x300#32 } 0x7FE1) (fun t => t.btarget == some 0x1000#32 && holds t 15#5 0x00000182#32) = true := by decide +kernel

/-- W11 -/
theorem test_trap_enters :
    after (oneStep { start [] with status := (statusOf 0xFE50#32), pc := 0x400#32, mem := Memory.writeAll [] 0x2014 [0x00#8, 0x09#8, 0x00#8, 0x00#8] } 0x7905) (fun t => t.istatus == (statusOf 0xFE50#32) && t.status == (statusOf 0x0A40#32) && holds t 15#5 0x00000201#32 && t.pc == 0x1200#32) = true := by decide +kernel

/-- W14 -/
theorem test_tret_returns :
    after (oneStep { (start []).moveWindow (-2#5) with istatus := (statusOf 0xFE52#32), rf := List.replicate 128 0x201#32 } 0x7DCF) (fun t => t.status == (statusOf 0xFE52#32) && t.pc == 0x402#32) = true := by decide +kernel

/-- W1 -/
theorem test_save_frames :
    after (oneStep ((start [(14#5, 0x00008000#32)])) 0x7817) (fun t => t.status.cwp == 5#5 && holds t 30#5 0x00008000#32 && holds t 14#5 0x00007FA4#32) = true := by decide +kernel

/-- W6 -/
theorem test_restore_moves_window :
    after (oneStep { start [] with status := (statusOf 0xFE40#32) } 0x7DA0) (fun t => t.status == (statusOf 0xFE50#32) && t.pc == 0x102#32) = true := by decide +kernel

/-- W15 -/
theorem test_rdctl_status :
    after (oneStep { start [] with status := (statusOf 0xFE62#32) } 0x7F21) (fun t => holds t 1#5 0x0000FE62#32) = true := by decide +kernel

/-- W17, second step -/
theorem test_rdctl_wvalid :
    after (oneStep { start [] with k := 2#11, pfx := true } 0x7F21) (fun t => holds t 1#5 0x000000C1#32) = true := by decide +kernel

/-- W18, first step -/
theorem test_wrctl_status_hazard :
    after (oneStep (start [(1#5, 0x0000FE60#32)]) 0x7F01) (fun t => t.status == (statusOf 0xFE60#32) && t.ctl0Hazard) = true := by decide +kernel

/-- W21, second step -/
theorem test_wrctl_wvalid :
    after (oneStep { start [(1#5, 0x000000A2#32)] with k := 2#11, pfx := true } 0x7F01) (fun t => t.hiLimit == 5#5 && t.loLimit == 2#5) = true := by decide +kernel

/-! ## Witnesses: a state and operands that meet the hypotheses of each obligation that has any -/

/-- A machine in window 3 of 7 with every register different, the carry set, exceptions enabled, and registers that point
into memory. -/
def busy : State :=
  { State.reset with
    rf := (List.range 128).map fun i => BitVec.ofNat 32 (0x1001 + 16 * i)
    status := { State.reset.status with ie := true, cwp := 3#5, c := true, n := true }
    mem := Memory.writeAll [] 0x1000 [0x11#8, 0x22#8, 0x33#8, 0x44#8] }

/-- A machine whose memory is `kind` everywhere, or unmapped where there is none. -/
def ofKind (kind : Option RegionKind) : State :=
  { busy with platform := { Platform.reset with regions := match kind with
      | none => []
      | some k => [{ base := 0, size := Config.addressSpace, kind := k }] } }

/-- An interrupt request. -/
def request (n : BitVec 6) : IrqInput := { irq := true, irqNumber := n, recognise := true }

theorem test_witness_registers_readable : ∀ i : RegNum, ∃ v, busy.readReg i = .ok v := by
  have h : ∀ i : RegNum, (busy.readReg i).toOption.isSome = true := by decide +kernel
  intro i
  have hi := h i
  revert hi
  cases busy.readReg i with
  | ok v => intro _; exact ⟨v, rfl⟩
  | error e => intro hi; cases hi

theorem test_witness_memory_readable : busy.Readable 0x1000 ∧ busy.Writable 0xFFFFFFFC ∧ busy.Writable 0 := by
  unfold State.Readable State.Writable; decide +kernel

theorem test_witness_file : busy.FileOk ∧ State.reset.FileOk := by
  unfold State.FileOk; decide +kernel

theorem test_witness_EncodeInvertsDecode : decodeWord 0x3000#16 = .ok (.mov 0#5 0#5) := by decide

theorem test_witness_WordsOfNoRowAreRefused :
    (State.reset.withFetchWord 16 0x9000).interruptTaken = none ∧
    ((State.reset.withFetchWord 16 0x9000).begin.fetchBytes = .ok { bytes := [0x00#8, 0x90#8], after := (State.reset.withFetchWord 16 0x9000).begin }) ∧
    (∀ r ∈ opcodeMap, wordOfBytes 0x00#8 0x90#8 &&& r.mask ≠ r.pattern) ∧
    (∀ r ∈ opcodeMap, wordOfBytes 0xA1#8 0x7D#8 &&& r.mask ≠ r.pattern) := by decide +kernel

theorem test_witness_StepRunsDecodedInstruction :
    (busy.withFetchWord 16 0x0041).interruptTaken = none ∧
    ((busy.withFetchWord 16 0x0041).begin.fetchBytes = .ok { bytes := [0x41#8, 0x00#8], after := (busy.withFetchWord 16 0x0041).begin }) ∧
    decodeWord (wordOfBytes 0x41#8 0x00#8) = .ok (.add 1#5 2#5) ∧ (Instr.add 1#5 2#5).isListed = true ∧
    (busy.withFetchWord 16 0x0041).skip = false ∧ (busy.withFetchWord 16 0x0041).btarget = none ∧
    (busy.withFetchWord 16 0x0041).ctl0Hazard = false ∧ forbiddenInSlot (.add 1#5 2#5) = false := by
  decide +kernel

theorem test_witness_StepRunsDecodedInstruction_in_slot_and_after_wrctl :
    (({ busy with btarget := some 0x200#32 }.withFetchWord 16 0x0041).begin.fetchBytes = .ok { bytes := [0x41#8, 0x00#8], after := ({ busy with btarget := some 0x200#32 }.withFetchWord 16 0x0041).begin }) ∧
    (({ busy with ctl0Hazard := true }.withFetchWord 16 0x3000).begin.fetchBytes = .ok { bytes := [0x00#8, 0x30#8], after := ({ busy with ctl0Hazard := true }.withFetchWord 16 0x3000).begin }) ∧
    wordOfBytes 0x00#8 0x30#8 = 0x3000#16 := by decide +kernel

/-- The fetch clauses: upper and lower half-word lane, fewer address bits, memory and a device. -/
theorem test_witness_StepRunsDecodedInstruction_fetch :
    busy.pc.getLsbD 0 = false ∧ busy.fetchAddr = 0x100 ∧ { busy with pc := 0x12346#32 }.fetchAddr = 0x12346 ∧
    { busy with pc := 0x12346#32, platform := { Platform.reset with addrBits := 16 } }.fetchAddr = 0x2346 ∧
    busy.readPort busy.fetchAddr = .ok .memory ∧ busy.Readable busy.fetchAddr ∧
    Assoc.find busy.fetchAddr busy.stores = none ∧ Assoc.find (busy.fetchAddr + 1) busy.stores = none ∧
    (ofKind (some (.device true true))).kindAt (ofKind (some (.device true true))).fetchAddr = some (.device true true) := by
  unfold State.Readable; decide +kernel

/-- R64: the instruction in the upper half-word of a word of memory is fetched at `pc[1] = 1`, low byte first. -/
theorem test_fetch_upper_lane :
    { busy with pc := 0x1002#32 }.fetchBytes
      = .ok { bytes := [0x33#8, 0x44#8], after := { busy with pc := 0x1002#32 } } := by decide +kernel

theorem test_witness_SkippedInstructionIsCancelled :
    (({ busy with skip := true }.withFetchWord 16 0x9810).begin.fetchBytes = .ok { bytes := [0x10#8, 0x98#8], after := ({ busy with skip := true }.withFetchWord 16 0x9810).begin }) ∧
    ({ busy with skip := true }.withFetchWord 16 0x9810).interruptTaken = none ∧
    decodeWord (wordOfBytes 0x10#8 0x98#8) = .ok (.pfx 16#11) ∧ (Instr.pfx 16#11).isListed = true := by decide +kernel

theorem test_witness_InterruptIsEntered :
    { busy with env := [request 62#6] }.env = request 62#6 :: [] ∧ (request 62#6).irq = true ∧
    (request 62#6).recognise = true ∧ (request 62#6).irqNumber.toNat < busy.status.ipri.toNat ∧ busy.status.ie = true ∧
    busy.btarget = none ∧ busy.skip = false ∧ busy.pfx = false ∧ busy.ctl0Hazard = false ∧ busy.status.cwp.toNat ≠ 0 ∧ busy.status.cwp.toNat ≤ busy.nwin ∧ busy.FileOk ∧
    busy.loadWord (busy.vectorAddr 62#6) = .ok { value := 0#32, after := busy } := by
  unfold State.FileOk; decide +kernel

/-- A request that is not recognised at this boundary is not taken: the instruction runs, with CWP as it was. -/
theorem test_unrecognised_request_is_not_taken :
    after (step { busy with env := [{ request 3#6 with recognise := false }] }) (fun t =>
      t.status.cwp == 3#5 && t.pc == 0x102#32) = true := by decide +kernel

/-- The clauses of the entries that stop: at window 0, into a window outside the file, an unmapped vector. -/
theorem test_witness_InterruptIsEntered_stops :
    { busy with status := { busy.status with cwp := 0#5 }, env := [request 3#6] }.status.cwp = 0#5 ∧
    { busy with status := { busy.status with cwp := 8#5 }, env := [request 3#6] }.nwin ≤ (8#5 - 1#5).toNat ∧
    (ofKind none).loadWord ((ofKind none).vectorAddr 3#6) = .error (.fault .unmappedAddress) := by decide +kernel

/-- The interrupt of that state is taken: STATUS is saved, the handler's window is 2. -/
theorem test_interrupt_taken :
    after (step { busy with env := [request 62#6] }) (fun t =>
      t.istatus == busy.status && t.status.cwp == 2#5 && t.status.ipri == 62#6 && !t.status.ie && t.env.isEmpty
        && holds t 15#5 0x00000080#32) = true := by decide +kernel

theorem test_witness_MaskedRequestLeavesNoTrace :
    { request 3#6 with irq := false }.irq = false ∧ { request 3#6 with recognise := false }.recognise = false ∧ State.reset.status.ie = false ∧ busy.status.ipri.toNat ≤ (request 63#6).irqNumber.toNat ∧
    { busy with btarget := some 0#32 }.btarget ≠ none ∧ { busy with skip := true }.skip = true ∧
    { busy with pfx := true }.pfx = true ∧ { busy with ctl0Hazard := true }.ctl0Hazard = true := by decide +kernel

theorem test_witness_HazardsStopTheStep :
    ({ busy with btarget := some 0x200#32 }.withFetchWord 16 0x8003).interruptTaken = none ∧
    ({ busy with ctl0Hazard := true }.withFetchWord 16 0x3402).interruptTaken = none ∧
    (({ busy with btarget := some 0x200#32 }.withFetchWord 16 0x8003).begin.fetchBytes = .ok { bytes := [0x03#8, 0x80#8], after := ({ busy with btarget := some 0x200#32 }.withFetchWord 16 0x8003).begin }) ∧
    decodeWord (wordOfBytes 0x03#8 0x80#8) = .ok (.br 3#11) ∧ (Instr.br 3#11).mnemonic = "BR" ∧
    (({ busy with ctl0Hazard := true }.withFetchWord 16 0x3402).begin.fetchBytes = .ok { bytes := [0x02#8, 0x34#8], after := ({ busy with ctl0Hazard := true }.withFetchWord 16 0x3402).begin }) ∧
    decodeWord (wordOfBytes 0x02#8 0x34#8) = .ok (.movi 2#5 0#5) ∧ Instr.movi 2#5 0#5 ≠ .mov 0#5 0#5 := by decide +kernel

/-- A store to the code, and FETCH_AHEAD passed, just not passed, and absent. -/
theorem test_witness_FetchAfterStore :
    Assoc.find 0x100 { busy with stores := [(0x100, 3)] }.stores = some 3 ∧ busy.fetchAddr = 0x100 ∧
    busy.platform.fetchAhead = none ∧ busy.readPort busy.fetchAddr = .ok .memory ∧
    { busy with now := 7 }.now - 3 ≤ 4 ∧ 4 < { busy with now := 8 }.now - 3 := by
  decide +kernel

theorem test_witness_RegisterWindowMapping :
    busy.FileOk ∧ (7#5).toNat < 8 ∧ 8 ≤ (8#5).toNat ∧ busy.status.cwp.toNat < busy.nwin ∧ 24 ≤ (24#5).toNat ∧
    busy.status.cwp.toNat + 1 < busy.nwin ∧
    { busy with status := { busy.status with cwp := 7#5 } }.nwin ≤ 7 := by
  unfold State.FileOk; decide +kernel

/-- The in register `%r24` of window 3 is the out register `%r8` of window 4. -/
theorem test_window_overlap : (busy.moveWindow 1#5).readReg 8#5 = busy.readReg 24#5 := by decide +kernel

theorem test_witness_RegistersOutsideFileStop :
    { busy with status := { busy.status with cwp := 7#5 } }.nwin ≤ 7 ∧ 8 ≤ (8#5).toNat ∧ busy.k = 0#11 ∧ busy.pfx = false ∧
    busy.loadWord (0x1021#32 + busy.offsetK) = .ok { value := 0#32, after := busy } ∧ busy.readReg 2#5 = .ok 0x1021#32 ∧
    { busy with status := { busy.status with cwp := 0#5 } }.nwin ≤ (0#5 - 1#5).toNat := by decide +kernel

/-- NegateAndAbsoluteResult, MultiplyResult, RotateThroughCarryResult, ExtendSwapAndComplementResult, FillResult, BranchResult,
JumpResult, SkipResult, CustomResult, TretReturns: one operand, `%r0` and the link register. -/
theorem test_witness_one_operand :
    busy.readReg 1#5 = .ok 0x1011#32 ∧ busy.readReg 31#5 = .ok 0x14F1#32 ∧ busy.readReg 0#5 = .ok 0x1001#32 ∧
    busy.readReg 15#5 = .ok 0x13F1#32 := by decide +kernel

/-- AddResult, SubtractResult, CompareResult, ShiftByRegisterResult, ShiftByImmediateResult, MoveResult, ExtractResult: two
operands, one global and one windowed. -/
theorem test_witness_two_operands : busy.readReg 7#5 = .ok 0x1071#32 ∧ busy.readReg 8#5 = .ok 0x1381#32 := by
  decide +kernel

theorem test_witness_LogicResult :
    busy.pfx = false ∧ busy.readReg 8#5 = .ok 0x1381#32 ∧ { busy with pfx := true, k := 0x7FF#11 }.pfx = true ∧
    (0xFFFF#32 : Word) = BitVec.ofNat 32 ({ busy with pfx := true, k := 0x7FF#11 }.immNat 31#5) := by decide +kernel

theorem test_witness_PrefixedOperandValues : busy.k = 0#11 := rfl

theorem test_witness_OnlyPrefixLeavesK :
    after (exec (.pfx 5#11) busy) (fun t => t.pfx && t.k == 5#11) = true ∧
    after (exec (.mov 1#5 2#5) { busy with pfx := true, k := 5#11 }) (fun t => !t.pfx && t.k == 0#11) = true := by
  decide +kernel

/-- LoadResult and the store results: every base form, at the highest word of memory too. -/
theorem test_witness_LoadResult_StoreResults :
    busy.readReg 16#5 = .ok 0x1401#32 ∧ busy.readReg 14#5 = .ok 0x13E1#32 ∧
    busy.Readable (busy.wordAddr (0x1401#32 + busy.offsetKImm 31#5)) ∧
    busy.Writable (busy.wordAddr (0xFFFFFFFF#32 + busy.offsetK)) ∧
    busy.Writable (busy.wordAddr (0x13E1#32 + BitVec.ofNat 32 1023)) ∧
    busy.Writable (busy.wordAddr (0x13E1#32 + BitVec.ofNat 32 (2 * 511))) := by
  unfold State.Readable State.Writable; decide +kernel

theorem test_witness_ByteStoreThenByteLoad :
    busy.readReg 1#5 = .ok 0x1011#32 ∧ busy.readReg 2#5 = .ok 0x1021#32 ∧ busy.readReg 0#5 = .ok 0x1001#32 ∧
    (2#5 : RegNum) ≠ 0#5 ∧ (1#5 : RegNum) ≠ 2#5 ∧ busy.Writable (busy.wordAddr 0x1021#32) := by
  unfold State.Writable; decide +kernel

/-- One state per clause: nothing mapped, a device that defines no access, ROM. -/
theorem test_witness_UndefinedAccessesStop :
    (ofKind none).readReg 14#5 = .ok 0x13E1#32 ∧ (ofKind (some .rom)).readReg 19#5 = .ok 0x1431#32 ∧
    (ofKind none).kindAt ((ofKind none).wordAddr 0x13E1#32) = none ∧
    (ofKind none).readPort (ofKind none).fetchAddr = .error (.fault .unmappedAddress) ∧
    (ofKind none).interruptTaken = none ∧
    (ofKind (some (.device false false))).kindAt ((ofKind (some (.device false false))).wordAddr 0xFFFFFFFF#32)
      = some (.device false false) ∧
    (ofKind (some .rom)).kindAt ((ofKind (some .rom)).wordAddr 0#32) = some .rom := by decide +kernel

/-- A device behind every address, and registers that point at it. -/
theorem test_witness_DeviceAccessResult :
    (ofKind (some (.device true true))).kindAt ((ofKind (some (.device true true))).wordAddr 0x13E1#32)
      = some (.device true true) ∧
    (ofKind (some (.device true true))).readReg 0#5 = .ok 0x1001#32 ∧
    (ofKind (some (.device true true))).readReg 19#5 = .ok 0x1431#32 ∧
    (ofKind (some (.device true true))).readReg 14#5 = .ok 0x13E1#32 := by decide +kernel

/-- A store to a device is one bus access of its width (R68), and no byte of memory changes. -/
theorem test_store_to_device :
    after (exec (.st16s 1#5 1#1) (ofKind (some (.device true true)))) (fun t =>
      t.bus == [{ now := 0, addr := 0x1012, size := 2, stored := some [0x00#8, 0x00#8] }] && t.mem == busy.mem
        && t.pc == 0x102#32) = true := by decide +kernel

/-- A load from a device is one bus access (R68). -/
theorem test_load_from_device :
    after (exec (.ld 1#5 2#5) (ofKind (some (.device true false)))) (fun t =>
      t.bus == [{ now := 0, addr := 0x1020, size := 4, stored := none }] && t.pc == 0x102#32) = true := by decide +kernel

/-- With 16 significant address bits the store at 0x12348 goes to 0x2348 (R4). -/
theorem test_addrBits_16 :
    after (exec (.st 1#5 2#5) { start [(1#5, 0x000000AB#32), (2#5, 0x00012348#32)] with
        platform := { Platform.reset with addrBits := 16 } }) (fun t => t.byteAt 0x2348 == 0xAB#8) = true := by
  decide +kernel

theorem test_witness_OnlyStoresChangeMemory :
    after (exec (.ld 1#5 2#5) busy) (fun t => t.mem == busy.mem) = true ∧ (Instr.ld 1#5 2#5).mnemonic = "LD" := by
  decide +kernel

theorem test_witness_SlotContinuesAtTarget :
    forbiddenInSlot (.mov 1#5 2#5) = false ∧ forbiddenInSlot (.save 1#8) = false ∧
    after (exec (.mov 1#5 2#5) { busy with btarget := some 0x200#32 }) (fun t => t.pc == 0x200#32) = true := by
  decide +kernel

theorem test_witness_SkipOnConditionResult :
    conditionOf busy.platform.conditions 13#4 = some (.not (.or .c .z)) ∧
    conditionOf busy.platform.conditions 14#4 = none ∧ busy.platform.conditions = conditionTableDefault ∧
    ((0#4).toNat, true) ∈ [(0, busy.status.c)] ∧ ((13#4).toNat, false) ∈ [(13, !(busy.status.c || busy.status.z))] ∧
    14 ≤ (14#4).toNat := by decide +kernel

theorem test_witness_CustomResult :
    (4 : Fin 5) ∈ busy.platform.usrConfigured ∧
    (0 : Fin 5) ∉ { busy with platform := { Platform.reset with usrConfigured := [] } }.platform.usrConfigured := by
  decide +kernel

theorem test_witness_TrapEntersException :
    busy.status.cwp ≠ 0#5 ∧ busy.status.cwp.toNat ≤ busy.nwin ∧ busy.FileOk ∧
    busy.loadWord (busy.vectorAddr 63#6) = .ok { value := 0#32, after := busy } ∧
    { busy with status := { busy.status with cwp := 0#5 } }.status.cwp = 0#5 ∧
    { busy with status := { busy.status with cwp := 8#5 } }.nwin ≤ (8#5 - 1#5).toNat ∧
    (ofKind none).loadWord ((ofKind none).vectorAddr 63#6) = .error (.fault .unmappedAddress) := by
  unfold State.FileOk; decide +kernel

theorem test_witness_VectorEntryAddress :
    busy.platform.vecBase.toNat % 4 = 0 ∧ busy.platform.vecBase.toNat + 256 ≤ 4294967296 ∧
    busy.Readable (busy.wordAddr (busy.vectorAddr 63#6)) := by unfold State.Readable; decide +kernel

theorem test_witness_TrapThenTretResumes :
    busy.status.cwp.toNat < busy.nwin ∧ busy.pc.getLsbD 0 = false ∧
    busy.loadWord (busy.vectorAddr 0#6) = .ok { value := 0#32, after := busy } := by
  decide +kernel

/-- The frame pointer of the window below, and one clause at a time: not at LO_LIMIT, exceptions off, and number 1 masked. -/
theorem test_witness_SaveOpensWindow :
    (busy.moveWindow (-1#5)).readReg 30#5 = .ok 0x13E1#32 ∧ busy.status.cwp ≠ busy.loLimit ∧ busy.status.cwp ≠ 0#5 ∧
    busy.readReg 14#5 = .ok 0x13E1#32 ∧ State.reset.status.ie = false ∧
    { busy with status := { busy.status with ipri := 1#6 } }.status.ipri.toNat ≤ 1 := by decide +kernel

/-- Log 30: SAVE at CWP 0 faults in a file of 7 windows (W10) and opens window 31 in a file of 32. -/
theorem test_save_at_window_zero :
    (match exec (.save 0#8) { busy with status := { busy.status with cwp := 0#5 } } with
      | .fault f => some f
      | _ => none) = some .windowOutOfFile ∧
    after (exec (.save 0#8) { State.reset with
        rf := List.replicate 528 0#32, status := { State.reset.status with cwp := 0#5 } }) (fun t =>
      t.status.cwp == 31#5) = true := by decide +kernel

theorem test_witness_SaveUnderflows :
    (({ busy with loLimit := 3#5 }).moveWindow (-1#5)).readReg 30#5 = .ok 0x13E1#32 ∧ busy.status.cwp = 3#5 ∧
    busy.status.ie = true ∧ 1 < busy.status.ipri.toNat ∧ (busy.moveWindow (-1#5)).physIndex 14#5 = some 46 ∧
    busy.loadWord (busy.vectorAddr 1#6) = .ok { value := 0#32, after := busy } := by
  decide +kernel

/-- W2: underflow with the next instruction as return address. -/
theorem test_save_underflow :
    after (oneStep { (start [(14#5, 0x00008000#32)]) with
        status := (statusOf 0xFE10#32), mem := Memory.writeAll [] 0x2004 [0x00#8, 0x0A#8] } 0x7817) (fun t =>
      t.status == (statusOf 0x0200#32) && t.istatus == (statusOf 0xFE00#32) && t.pc == 0x1400#32
        && holds t 15#5 0x00000081#32) = true := by decide +kernel

theorem test_witness_RestoreResult_no_exception :
    busy.status.cwp ≠ busy.hiLimit ∧ State.reset.status.ie = false ∧
    { busy with status := { busy.status with ipri := 2#6 } }.status.ipri.toNat ≤ 2 := by decide +kernel

/-- Overflow, overflow at CWP 31, and overflow in a window the file does not have. -/
theorem test_witness_RestoreResult_overflow :
    { busy with hiLimit := 3#5 }.hiLimit = busy.status.cwp ∧ 2 < busy.status.ipri.toNat ∧
    busy.status.cwp.toNat < busy.nwin ∧ busy.status.cwp ≠ 31#5 ∧
    busy.loadWord (busy.vectorAddr 2#6) = .ok { value := 0#32, after := busy } ∧
    { busy with hiLimit := 31#5, status := { busy.status with cwp := 31#5 } }.status.cwp = 31#5 ∧
    { busy with hiLimit := 7#5, status := { busy.status with cwp := 7#5 } }.nwin ≤ 7 := by
  decide +kernel

/-- W5: overflow with CWP back at HI_LIMIT. -/
theorem test_restore_overflow :
    after (oneStep { start [] with
        status := (statusOf 0xFE60#32), pc := 0x200#32, mem := Memory.writeAll [] 0x2008 [0x00#8, 0x0B#8] } 0x7DA0)
      (fun t => t.status == (statusOf 0x0460#32) && t.istatus == (statusOf 0xFE70#32) && t.pc == 0x1600#32
        && holds t 15#5 0x00000101#32) = true := by decide +kernel

theorem test_witness_SaveThenRestoreKeepsCaller :
    busy.FileOk ∧ busy.status.cwp.toNat ≠ 0 ∧ busy.status.cwp.toNat < busy.nwin ∧ busy.status.cwp ≠ busy.loLimit ∧
    busy.status.cwp - 1#5 ≠ busy.hiLimit ∧ State.reset.status.ie = false ∧ State.reset.status.cwp.toNat = 6 ∧
    { busy with status := { busy.status with ipri := 1#6 } }.status.ipri.toNat ≤ 1 := by
  unfold State.FileOk; decide +kernel

theorem test_witness_ReadControlResult_WriteControlResult :
    busy.k = 0#11 ∧ { busy with k := 1#11 }.k = busy.platform.controlMap.istatus ∧
    { busy with k := 2#11 }.k = busy.platform.controlMap.wvalid ∧ { busy with k := 3#11 }.k ≠ busy.platform.controlMap.wvalid ∧
    busy.platform.controlMap.Distinct ∧ busy.readReg 1#5 = .ok 0x1011#32 := by
  unfold ControlMap.Distinct; decide +kernel

/-- WVALID at another number and with the limits the other way round (R4: `ctlMap` is a parameter). -/
theorem test_other_control_map :
    after (exec (.rdctl 1#5) { start [] with
        k := 9#11
        platform := { Platform.reset with
          controlMap := { istatus := 1#11, wvalid := 9#11, hiLimit := 0, loLimit := 8 } } }) (fun t =>
      holds t 1#5 0x00000106#32) = true := by decide +kernel

theorem test_witness_ResetHasInvariant :
    (State.powerUp PowerUp.default).FileOk ∧ PowerUp.default.resetAddr.getLsbD 0 = false ∧
    Memory.wf PowerUp.default.mem = true := by unfold State.FileOk; decide +kernel

theorem test_witness_OnlyWindowInstructionsChangeCwp :
    after (exec .restore busy) (fun t => t.status.cwp == 4#5) = true ∧ busy.status.cwp = 3#5 := by decide +kernel

theorem test_witness_StepKeepsInvariant : busy.Inv ∧ after (step busy) (fun _ => true) = true := by
  refine ⟨⟨by decide +kernel, by decide, ?_, by decide, fun t h => (by cases h), fun _ => rfl, by decide, by decide,
    by decide⟩, by decide +kernel⟩
  unfold State.FileOk; decide +kernel

/-! ## Stops -/

/-- Why the outcome is no next state. -/
def stopOf : Result → Option Stop
  | .next _ => none
  | .fault f => some (.fault f)
  | .refused r => some (.refusal r)

theorem test_interrupt_at_window_zero_faults :
    stopOf (step { busy with status := { busy.status with cwp := 0#5 }, env := [request 3#6] })
      = some (.fault .exceptionAtWindowZero) := by decide +kernel
theorem test_undefined_device_read_faults :
    stopOf (exec (.ld 1#5 2#5) (ofKind (some (.device false true)))) = some (.fault .deviceAccessUndefined) := by
  decide +kernel
theorem test_skps_14_refused :
    stopOf (exec (.skps 14#4) busy) = some (.refusal .unknownCondition) := by decide +kernel
theorem test_rdctl_3_refused :
    stopOf (exec (.rdctl 1#5) { busy with k := 3#11 }) = some (.refusal .unknownControlRegister) := by decide +kernel
theorem test_unused_word_refused :
    stopOf (oneStep busy 0x7F60) = some (.refusal .unusedEncoding) := by decide +kernel
theorem test_must_be_zero_word_refused :
    stopOf (oneStep busy 0x7DA1) = some (.refusal .unusedEncoding) := by decide +kernel
theorem test_branch_in_slot_faults :
    stopOf (oneStep { busy with btarget := some 0x200#32 } 0x8003) = some (.fault .forbiddenDelaySlot) := by decide +kernel
theorem test_missing_nop_faults :
    stopOf (oneStep { busy with ctl0Hazard := true } 0x3402) = some (.fault .nopRequiredAfterWrctlStatus) := by decide +kernel
theorem test_trap_at_window_zero_faults :
    stopOf (exec (.trap 0#6) { busy with status := { busy.status with cwp := 0#5 } }) = some (.fault .exceptionAtWindowZero) := by decide +kernel
theorem test_fetch_after_store_faults :
    stopOf (step { busy with stores := [(0x101, 0)] }) = some (.fault .fetchAfterStoreUnspecified) := by decide +kernel

end Sys2Proof.Tests
end

section
/-! The scope statements (00_scope.md R4): the addresses of the vector table and the values of reset. -/

namespace Sys2Proof.Machine

/-! ## The address of a vector -/

/-- The bus address of a word is its aligned address, of which ADDR_BITS bits are significant (R65, decision D3). -/
theorem State.wordAddr_eq (s : State) (x : Word) : s.wordAddr x = x.toNat / 4 * 4 % 2 ^ s.platform.addrBits := by
  simp only [State.wordAddr, State.busAddr, align32_toNat]

/-- In a table that does not wrap, vector `n` lies `4*n` bytes above VECBASE (R70, R266). -/
theorem State.vectorAddr_toNat {s : State} (fits : s.platform.vecBase.toNat + 256 ≤ 4294967296) (n : BitVec 6) :
    (s.vectorAddr n).toNat = s.platform.vecBase.toNat + 4 * n.toNat := by
  have hn : n.toNat < 64 := n.isLt
  have offset : (n.zeroExtend 32 * 4#32).toNat = 4 * n.toNat := by bv_omega
  rw [State.vectorAddr, BitVec.toNat_add, offset]
  omega

/-- In an aligned table that does not wrap, the word read for exception `n` is that of vector `n`. -/
theorem State.wordAddr_vectorAddr {s : State} (aligned : s.platform.vecBase.toNat % 4 = 0)
    (fits : s.platform.vecBase.toNat + 256 ≤ 4294967296) (n : BitVec 6) :
    s.wordAddr (s.vectorAddr n) = (s.platform.vecBase.toNat + 4 * n.toNat) % 2 ^ s.platform.addrBits := by
  rw [State.wordAddr_eq, State.vectorAddr_toNat fits]
  congr 1
  omega

/-- Settles O48: the aligned table's entries are aligned, and a word of memory answers itself. -/
theorem vectorEntryAddress : Obligations.VectorEntryAddress := fun s n x =>
  ⟨s.wordAddr_eq x, fun aligned fits => State.wordAddr_vectorAddr aligned fits n, State.loadWord_memory⟩

/-! ## The machine after reset -/

@[simp] theorem State.powerUp_rf (u : PowerUp) : (State.powerUp u).rf = u.rf := rfl
@[simp] theorem State.powerUp_pc (u : PowerUp) : (State.powerUp u).pc = u.resetAddr := rfl
@[simp] theorem State.powerUp_status (u : PowerUp) : (State.powerUp u).status =
    { ie := false, ipri := 63#6, cwp := u.hiLimitReset, n := u.n, v := u.v, z := u.z, c := u.c } := rfl
@[simp] theorem State.powerUp_loLimit (u : PowerUp) : (State.powerUp u).loLimit = 1#5 := rfl
@[simp] theorem State.powerUp_hiLimit (u : PowerUp) : (State.powerUp u).hiLimit = u.hiLimitReset := rfl
@[simp] theorem State.powerUp_k (u : PowerUp) : (State.powerUp u).k = 0#11 := rfl
@[simp] theorem State.powerUp_pfx (u : PowerUp) : (State.powerUp u).pfx = false := rfl
@[simp] theorem State.powerUp_skip (u : PowerUp) : (State.powerUp u).skip = false := rfl
@[simp] theorem State.powerUp_btarget (u : PowerUp) : (State.powerUp u).btarget = none := rfl
@[simp] theorem State.powerUp_ctl0Hazard (u : PowerUp) : (State.powerUp u).ctl0Hazard = false := rfl

/-- The file of `State.reset` is the smallest one, of 128 registers (R22). -/
theorem State.reset_rf_length : State.reset.rf.length = 128 := List.length_replicate

/-- A file of 128 registers has 7 windows (R22). -/
theorem State.reset_nwin : State.reset.nwin = 7 := by
  rw [State.nwin, State.reset_rf_length]

/-- Settles O60: the first half holds of every choice of the open values, the second reads off those of `State.reset`. -/
theorem resetValues : Obligations.ResetValues := by
  refine ⟨fun u => by simp, ?_⟩
  rw [State.reset_nwin]
  exact ⟨rfl, rfl, rfl, rfl, State.reset_rf_length, rfl, rfl, rfl, rfl⟩

end Sys2Proof.Machine
end

section
/-! What an executed instruction can do, said once for all 81 rows: the shared operations it can end by. Every statement
over all instructions is a case split on this. -/

namespace Sys2Proof.Machine

/-! ## Operations in sequence -/

/-- A meaning that runs one operation and goes on completes only where that operation answers. -/
theorem next_of_bind {α : Type} {m : Except Stop α} {f : α → Except Stop State} {t : State}
    (h : outcome (m >>= f) = .next t) : ∃ x, m = .ok x ∧ f x = .ok t :=
  bind_eq_ok.1 (outcome_eq_next.1 h)

/-- A meaning that reads two operands and goes on. -/
theorem next_of_two_binds {α β : Type} {m : Except Stop α} {n : Except Stop β} {f : α → β → Except Stop State} {t : State}
    (h : outcome (m >>= fun x => n >>= f x) = .next t) : ∃ x y, f x y = .ok t := by
  obtain ⟨x, -, h⟩ := next_of_bind h
  obtain ⟨y, -, h⟩ := bind_eq_ok.1 h
  exact ⟨x, y, h⟩

/-- A full-word store lies inside the address space (R61). -/
theorem State.storeWord_ok {s t : State} {x v : Word} (h : s.storeWord x v = .ok t) :
    ∃ p a vs, a + vs.length ≤ Config.addressSpace ∧ t = s.stored p a vs := by
  obtain ⟨p, -, ht⟩ := State.storeBytes_ok.1 h
  exact ⟨p, _, _, s.wordAddr_bound x, ht⟩

/-- A byte store lies inside the address space (R222). -/
theorem State.storeByteLane_ok {s t : State} {x v : Word} {n : BitVec 2} (h : s.storeByteLane x n v = .ok t) :
    ∃ p a vs, a + vs.length ≤ Config.addressSpace ∧ t = s.stored p a vs := by
  obtain ⟨p, -, ht⟩ := State.storeBytes_ok.1 h
  refine ⟨p, _, _, ?_, ht⟩
  have hword := s.wordAddr_bound x
  have hlane : n.toNat < 4 := n.isLt
  simp only [List.length_cons, List.length_nil]
  omega

/-- A half-word store lies inside the address space (R222). -/
theorem State.storeHalfLane_ok {s t : State} {x v : Word} {n : BitVec 1} (h : s.storeHalfLane x n v = .ok t) :
    ∃ p a vs, a + vs.length ≤ Config.addressSpace ∧ t = s.stored p a vs := by
  obtain ⟨p, -, ht⟩ := State.storeBytes_ok.1 h
  refine ⟨p, _, _, ?_, ht⟩
  have hword := s.wordAddr_bound x
  have hlane : n.toNat < 2 := n.isLt
  simp only [halfBytes, List.length_cons, List.length_nil]
  omega

/-! ## Even code addresses -/

/-- Bit 0 says whether an address is even. -/
theorem even_iff {x : Word} : x.getLsbD 0 = false ↔ x.toNat % 2 = 0 := by
  simp [BitVec.getLsbD, Nat.testBit_zero]

/-- A doubled half-word address is even (R133, R262). -/
theorem even_double (x : Word) : (x * 2#32).getLsbD 0 = false := by
  rw [even_iff, BitVec.toNat_mul, show (2#32).toNat = 2 from rfl]
  omega

/-- The sum of even addresses is even. -/
theorem even_add {x y : Word} (hx : x.getLsbD 0 = false) (hy : y.getLsbD 0 = false) : (x + y).getLsbD 0 = false := by
  rw [even_iff] at hx hy
  rw [even_iff, BitVec.toNat_add]
  omega

/-! ## The ways an instruction ends -/

/-- What an executed instruction that completes has done, one constructor for each way of ending. A load is a register
write after a bus access, which for memory is no change; every other register write is one after no access. -/
inductive Effect (i : Instr) (s : State) : State → Prop where
  | writesReg {t : State} (p : Port) (a : Nat) (r : RegNum) (v : Word) (f : Status → Status)
      (slot : forbiddenInSlot i = false) (cwp : ∀ x, (f x).cwp = x.cwp)
      (ends : (s.accessed p a 4 none).retireReg r v f = .ok t) : Effect i s t
  | compares (f : Status → Status) (slot : forbiddenInSlot i = false) (cwp : ∀ x, (f x).cwp = x.cwp) :
      Effect i s (s.mapStatus f).retire
  | stores (p : Port) (a : Nat) (vs : List Byte) (slot : forbiddenInSlot i = false)
      (fits : a + vs.length ≤ Config.addressSpace) : Effect i s (s.stored p a vs).retire
  | skips (holds : Bool) (slot : forbiddenInSlot i = true) (notPfx : isPfx i = false) : Effect i s (s.retireSkip holds)
  | transfers (u : State) (target : Word) (slot : forbiddenInSlot i = true) (notPfx : isPfx i = false)
      (even : s.pc.getLsbD 0 = false → target.getLsbD 0 = false) (link : u = s ∨ s.writeReg regLink s.link = .ok u) :
      Effect i s (u.retireTo target)
  | setsK (imm11 : BitVec 11) (is : i = .pfx imm11) : Effect i s { s.retire with k := imm11, pfx := true }
  | traps {t : State} (n : BitVec 6) (is : i = .trap n) (ends : s.exceptionEntry n (s.pc + 2#32) true = .ok t) : Effect i s t
  | returns (a : RegNum) (x : Word) (is : i = .tret a) : Effect i s (s.exceptionReturn x)
  | opensWindow {t : State} (imm8v : BitVec 8) (v : Word) (u : State) (is : i = .save imm8v)
      (framed : (s.moveWindow (-1#5)).writeReg regSp v = .ok u)
      (ends : u.exceptionEntry 1#6 s.nxt false = .ok t ∨ t = u.retire) : Effect i s t
  | closesWindow {t : State} (is : i = .restore)
      (ends : (s.moveWindow 1#5).exceptionEntry 2#6 s.nxt true = .ok t ∨ t = (s.moveWindow 1#5).retire) : Effect i s t
  | writesStatus (a : RegNum) (x : Status) (is : i = .wrctl a) (k : s.k = 0#11) :
      Effect i s { s.retire with status := x, ctl0Hazard := true }
  | writesControl (a : RegNum) (x : Status) (hi lo : BitVec 5) (is : i = .wrctl a) :
      Effect i s { s.retire with istatus := x, hiLimit := hi, loLimit := lo }

/-- An instruction that ends by writing a register, with no bus access. -/
theorem Effect.of_retireReg {i : Instr} {s t : State} {r : RegNum} {v : Word} {f : Status → Status}
    (slot : forbiddenInSlot i = false) (ends : s.retireReg r v f = .ok t) (cwp : ∀ x, (f x).cwp = x.cwp) : Effect i s t :=
  .writesReg .memory 0 r v f slot cwp ends

/-- An instruction that ends by writing what it loaded. -/
theorem Effect.of_load {i : Instr} {s t : State} {r : RegNum} {x : Word} (slot : forbiddenInSlot i = false)
    (ends : (s.loadWord x >>= fun v => v.after.retireReg r v.value keepFlags) = .ok t) : Effect i s t := by
  obtain ⟨v, hv, ends⟩ := bind_eq_ok.1 ends
  obtain ⟨p, -, hafter, -⟩ := State.loadWord_ok.1 hv
  rw [hafter] at ends
  exact .writesReg p _ r _ keepFlags slot (fun _ => rfl) ends

/-- An instruction that ends after a store. -/
theorem Effect.of_store {i : Instr} {s t : State} {m : Except Stop State} (slot : forbiddenInSlot i = false)
    (stores : ∀ u, m = .ok u → ∃ p a vs, a + vs.length ≤ Config.addressSpace ∧ u = s.stored p a vs)
    (ends : (m >>= fun u => pure u.retire) = .ok t) : Effect i s t := by
  obtain ⟨u, hu, ends⟩ := bind_eq_ok.1 ends
  obtain ⟨p, a, vs, fits, rfl⟩ := stores u hu
  cases ends
  exact .stores p a vs slot fits

/-- The control register that `K` selects is STATUS for K = 0 alone (R32). -/
theorem controlOf_status {m : ControlMap} {k : BitVec 11} : controlOf m k = some .status ↔ k = 0#11 := by
  unfold controlOf
  split <;> (try split) <;> (try split) <;> simp_all

/-- WRCTL has written one control register (R240). -/
theorem Effect.of_wrctl {a : RegNum} {s t : State} (h : exec (.wrctl a) s = .next t) : Effect (.wrctl a) s t := by
  obtain ⟨x, -, h⟩ := next_of_bind h
  cases hc : controlOf s.platform.controlMap s.k with
  | none => simp only [hc] at h; cases h
  | some c =>
    simp only [hc] at h
    cases c with
    | status => cases h; exact .writesStatus a _ rfl (controlOf_status.1 hc)
    | istatus => cases h; exact .writesControl a _ s.hiLimit s.loLimit rfl
    | wvalid => cases h; exact .writesControl a s.istatus _ _ rfl

/-- Every executed instruction that completes has had one of the effects. -/
theorem exec_effect {i : Instr} {s t : State} (h : exec i s = .next t) : Effect i s t := by
  cases i with
  | movi | bgen => exact .of_retireReg rfl (outcome_eq_next.1 h) fun _ => rfl
  | addi | subi | neg | abs | not | lsli | lsri | asri | rlc | rrc | mov | movhi | ext8s | ext16s | sext8 | sext16 | swap
  | fill8 | fill16 | rdctl =>
    obtain ⟨x, -, h⟩ := next_of_bind h
    exact .of_retireReg rfl h fun _ => rfl
  | add | sub | mstep | mul | ext8d | ext16d | and | andn | or | xor | lsl | lsr | asr =>
    obtain ⟨x, y, h⟩ := next_of_two_binds h
    exact .of_retireReg rfl h fun _ => rfl
  | usr0 | usr1 | usr2 | usr3 | usr4 =>
    obtain ⟨x, y, h⟩ := next_of_two_binds h
    obtain ⟨v, -, h⟩ := bind_eq_ok.1 h
    exact .of_retireReg rfl h fun _ => rfl
  | cmp =>
    obtain ⟨x, y, h⟩ := next_of_two_binds h
    cases h
    exact .compares _ rfl fun _ => rfl
  | cmpi =>
    obtain ⟨x, -, h⟩ := next_of_bind h
    cases h
    exact .compares _ rfl fun _ => rfl
  | ld | ldp | lds =>
    obtain ⟨x, -, h⟩ := next_of_bind h
    exact .of_load rfl h
  | st | stp | sts =>
    obtain ⟨x, y, h⟩ := next_of_two_binds h
    exact .of_store rfl (fun _ => State.storeWord_ok) h
  | st8d | st8s | sts8s =>
    obtain ⟨x, y, h⟩ := next_of_two_binds h
    exact .of_store rfl (fun _ => State.storeByteLane_ok) h
  | st16d | st16s | sts16s =>
    obtain ⟨x, y, h⟩ := next_of_two_binds h
    exact .of_store rfl (fun _ => State.storeHalfLane_ok) h
  | skp0 | skp1 | skprz | skprnz =>
    obtain ⟨x, -, h⟩ := next_of_bind h
    cases h
    exact .skips _ rfl rfl
  | skps imm4w =>
    simp only [exec, execSkps] at h
    split at h <;> cases h
    exact .skips _ rfl rfl
  | br imm11 =>
    cases h
    exact .transfers s _ rfl rfl (fun hpc => even_add hpc (even_double _)) (.inl rfl)
  | bsr imm11 =>
    obtain ⟨u, hu, h⟩ := next_of_bind h
    cases h
    exact .transfers u _ rfl rfl (fun hpc => even_add hpc (even_double _)) (.inr hu)
  | jmp a =>
    obtain ⟨x, -, h⟩ := next_of_bind h
    cases h
    exact .transfers s _ rfl rfl (fun _ => even_double _) (.inl rfl)
  | call a =>
    obtain ⟨x, -, h⟩ := next_of_bind h
    obtain ⟨u, hu, h⟩ := bind_eq_ok.1 h
    cases h
    exact .transfers u _ rfl rfl (fun _ => even_double _) (.inr hu)
  | pfx imm11 =>
    cases h
    exact .setsK imm11 rfl
  | trap n => exact .traps n rfl (outcome_eq_next.1 h)
  | tret a =>
    obtain ⟨x, -, h⟩ := next_of_bind h
    cases h
    exact .returns a x rfl
  | save imm8v =>
    obtain ⟨fp, -, h⟩ := next_of_bind h
    obtain ⟨u, hu, h⟩ := bind_eq_ok.1 h
    refine .opensWindow imm8v _ u rfl hu ?_
    split at h
    · exact .inl h
    · cases h; exact .inr rfl
  | restore =>
    refine .closesWindow rfl ?_
    have h := outcome_eq_next.1 h
    split at h
    · exact .inl h
    · cases h; exact .inr rfl
  | wrctl a => exact .of_wrctl h
  | unused011101010 | unused011101011 | unlisted011101110 | unlisted011101111 | unlisted01111010 | unlisted01111011
  | unused01111100111 | unused01111101111 | unused01111111011 | unused01111111100 | unused01111111101 | unlisted10010 => cases h

end Sys2Proof.Machine
end

section
/-! Exception entry (R262), said once: where it faults, and otherwise the state it leaves, which depends on the read of the
vector alone. -/

namespace Sys2Proof.Machine

/-! ## Reads of memory in states that differ in the core alone -/

/-- A word read depends on memory, the platform and the bus alone, and changes the bus alone. -/
theorem State.loadWord_congr {s u : State} (memory : SameMemory s u) (outside : SameOutside s u) (x : Word) :
    u.loadWord x = (s.loadWord x).map fun r => { value := r.value, after := { u with bus := r.after.bus } } := by
  obtain ⟨⟨hplatform, -, hnow⟩, hbus⟩ := outside
  have haddr : u.wordAddr x = s.wordAddr x := by simp only [State.wordAddr, State.busAddr, hplatform]
  have hport : u.readPort = s.readPort := by funext a; simp only [State.readPort, State.kindAt, hplatform]
  have hbyte : u.byteAt = s.byteAt := funext memory.bytes
  simp only [State.loadWord, haddr, hport]
  cases s.readPort (s.wordAddr x) with
  | error e => rfl
  | ok p =>
    cases p with
    | memory =>
      have hu : { u with bus := s.bus } = u := by rw [← hbus]
      simp [Except.map, wordFrom, hbyte, hu]
    | device => simp [Except.map, wordFrom, State.accessed, hbus, hnow]

/-! ## Registers outside the file -/

/-- A windowed register of a window outside the file has no physical register (R24). -/
theorem State.physIndex_outside {s : State} {i : RegNum} (hi : 8 ≤ i.toNat) (h : s.nwin ≤ s.status.cwp.toNat) :
    s.physIndex i = none := by
  simp [State.physIndex, Nat.not_lt.2 hi, Nat.not_lt.2 h]

/-- A windowed register of a window outside the file stops the write (R24). -/
theorem State.writeReg_outside {s : State} {i : RegNum} (hi : 8 ≤ i.toNat) (h : s.nwin ≤ s.status.cwp.toNat) (v : Word) :
    s.writeReg i v = .error (.fault .windowOutOfFile) := by
  simp [State.writeReg, State.physIndex_outside hi h]

/-- A windowed register that can be read lies in a window of the file. -/
theorem State.inside_of_readReg {s : State} {i : RegNum} {v : Word} (hi : 8 ≤ i.toNat) (h : s.readReg i = .ok v) :
    s.status.cwp.toNat < s.nwin := by
  by_contra hout
  rw [State.readReg_outside hi (Nat.not_lt.1 hout)] at h
  cases h

/-- Every register of a window inside the file can be written. -/
theorem State.writeReg_inside {s : State} (h : s.status.cwp.toNat < s.nwin) (i : RegNum) (v : Word) :
    ∃ j, s.physIndex i = some j ∧ j < s.rf.length ∧ s.writeReg i v = .ok { s with rf := s.rf.set j v } := by
  obtain ⟨x, hx⟩ := State.readReg_inside h i
  exact State.writeReg_of_readReg hx v

/-- Writing the physical register of `%r i` leaves every other. -/
theorem SameFileBut.of_set {s t : State} {i : RegNum} {j : Nat} {v : Word} (hj : s.physIndex i = some j)
    (hrf : t.rf = s.rf.set j v) : SameFileBut s t i where
  length := by rw [hrf, List.length_set]
  others k hk := by
    have hne : j ≠ k := fun he => hk (he ▸ hj)
    rw [hrf, List.getElem?_set_ne hne]

/-! ## The entry -/

/-- STATUS saved in ISTATUS and the handler's window selected: the state in which the link is written (R262). -/
def State.entering (s : State) (n : BitVec 6) (dec : Bool) : State :=
  { s with istatus := s.status, status := s.status.entered n dec }

/-- The state after the entry of exception `n`, the link in physical register `j`, the vector's read having answered `r`. -/
def State.enteredAt (s : State) (n : BitVec 6) (ret : Word) (dec : Bool) (j : Nat) (r : Loaded) : State :=
  ({ s.entering n dec with rf := s.rf.set j (ret >>> 1), bus := r.after.bus } : State).redirect (r.value * 2#32)

/-- An entry that decrements CWP faults at window 0 (R270). -/
theorem State.exceptionEntry_windowZero {s : State} (h : s.status.cwp = 0#5) (n : BitVec 6) (ret : Word) :
    s.exceptionEntry n ret true = .error (.fault .exceptionAtWindowZero) := by
  simp [State.exceptionEntry, h]

/-- Elsewhere the entry writes the link and reads the vector. -/
theorem State.exceptionEntry_eq_link {s : State} {dec : Bool} (guard : dec = true → s.status.cwp ≠ 0#5) (n : BitVec 6)
    (ret : Word) :
    s.exceptionEntry n ret dec = ((s.entering n dec).writeReg regLink (ret >>> 1) >>= fun linked =>
      linked.loadWord (linked.vectorAddr n) >>= fun handler => pure (handler.after.redirect (handler.value * 2#32))) := by
  have hguard : (dec && decide (s.status.cwp = 0#5)) = false := by
    cases dec with
    | false => rfl
    | true => simp [guard rfl]
  simp [State.exceptionEntry, State.entering, hguard]

/-- An entry into a window the file does not have faults (R24). -/
theorem State.exceptionEntry_outside {s : State} {n : BitVec 6} {dec : Bool} (guard : dec = true → s.status.cwp ≠ 0#5)
    (hout : s.nwin ≤ (s.status.entered n dec).cwp.toNat) (ret : Word) :
    s.exceptionEntry n ret dec = .error (.fault .windowOutOfFile) := by
  rw [State.exceptionEntry_eq_link guard, State.writeReg_outside (by decide) hout, bind_error]

/-- Any other entry answers what the read of the vector answers. The read can be made in any state with the same memory and
bus. -/
theorem State.exceptionEntry_eq {s u : State} {n : BitVec 6} {dec : Bool} {j : Nat} (memory : SameMemory s u)
    (outside : SameOutside s u) (guard : dec = true → u.status.cwp ≠ 0#5)
    (hj : (u.entering n dec).physIndex regLink = some j) (hlt : j < u.rf.length) (ret : Word) :
    u.exceptionEntry n ret dec = (s.loadWord (s.vectorAddr n)).map (u.enteredAt n ret dec j) := by
  have hwrite : (u.entering n dec).writeReg regLink (ret >>> 1)
      = .ok { u.entering n dec with rf := u.rf.set j (ret >>> 1) } := State.writeReg_ok.2 ⟨j, hj, hlt, rfl⟩
  have hvector : u.vectorAddr n = s.vectorAddr n := by simp only [State.vectorAddr, outside.inputs.platform]
  have hload := State.loadWord_congr (u := { u.entering n dec with rf := u.rf.set j (ret >>> 1) })
    ⟨memory.bytes, memory.stores⟩ ⟨⟨outside.inputs.platform, outside.inputs.env, outside.inputs.now⟩, outside.bus⟩
    (u.vectorAddr n)
  rw [State.exceptionEntry_eq_link guard, hwrite, bind_ok]
  change (State.loadWord _ (u.vectorAddr n) >>= _) = _
  rw [hload, hvector]
  cases s.loadWord (s.vectorAddr n) <;> rfl

/-- A state has its own memory. -/
theorem SameMemory.refl (s : State) : SameMemory s s := ⟨fun _ => rfl, rfl⟩

/-- A state has its own inputs and bus. -/
theorem SameOutside.refl (s : State) : SameOutside s s := ⟨⟨rfl, rfl, rfl⟩, rfl⟩

/-- Everything an entry that completes has done. -/
theorem State.exceptionEntry_next {s t : State} {n : BitVec 6} {ret : Word} {dec : Bool}
    (h : s.exceptionEntry n ret dec = .ok t) :
    ∃ j r, (s.entering n dec).physIndex regLink = some j ∧ j < s.rf.length ∧ t = s.enteredAt n ret dec j r := by
  obtain ⟨hguard, linked, -, hlinked, -, -⟩ := State.exceptionEntry_ok.1 h
  obtain ⟨j, hj, hlt, -⟩ := State.writeReg_ok.1 hlinked
  rw [State.exceptionEntry_eq (SameMemory.refl s) (SameOutside.refl s) (not_and.1 hguard) hj hlt ret] at h
  cases hr : s.loadWord (s.vectorAddr n) with
  | error e => rw [hr] at h; cases h
  | ok r => rw [hr] at h; cases h; exact ⟨j, r, hj, hlt, rfl⟩

/-- The handler's link register holds the return address shifted right by one (R262). -/
theorem State.enteredAt_readReg_link {s : State} {n : BitVec 6} {dec : Bool} {j : Nat}
    (hj : (s.entering n dec).physIndex regLink = some j) (hlt : j < s.rf.length) (ret : Word) (r : Loaded) :
    (s.enteredAt n ret dec j r).readReg regLink = .ok (BitVec.ofNat 32 (ret.toNat / 2)) := by
  have hlink : (s.enteredAt n ret dec j r).readReg regLink = .ok (ret >>> 1) :=
    State.readReg_set (s := s.entering n dec) hj hlt rfl rfl
  have hhalf : ret >>> 1 = BitVec.ofNat 32 (ret.toNat / 2) := by
    apply BitVec.eq_of_toNat_eq
    simp only [BitVec.toNat_ushiftRight, BitVec.toNat_ofNat, Nat.shiftRight_eq_div_pow]
    omega
  rw [hlink, hhalf]

/-- The state an entry leaves is the one R262 describes. -/
theorem State.enteredAt_entered {s u : State} {n : BitVec 6} {dec : Bool} {j : Nat} (control : SameControl s u)
    (memory : SameMemory s u) (outside : SameOutside s u) (hj : (u.entering n dec).physIndex regLink = some j)
    (hlt : j < u.rf.length) (ret : Word) (r : Loaded) :
    Entered s (u.enteredAt n ret dec j r) u.rf u.status (u.status.entered n dec).cwp n r ret where
  istatus := rfl
  status := rfl
  link := State.enteredAt_readReg_link hj hlt ret r
  others := by
    obtain ⟨hlength, hothers⟩ := SameFileBut.of_set (t := u.enteredAt n ret dec j r) hj rfl
    refine ⟨hlength, fun k hk => hothers k ?_⟩
    rwa [State.physIndex_congr hlength rfl] at hk
  pc := by
    change r.value * 2#32 = _
    apply BitVec.eq_of_toNat_eq
    simp [Nat.mul_comm]
  idle := ⟨rfl, rfl, rfl, rfl, rfl⟩
  limits := ⟨control.loLimit, control.hiLimit⟩
  memory := ⟨memory.bytes, memory.stores⟩
  inputs := ⟨outside.inputs.platform, outside.inputs.env, outside.inputs.now⟩
  bus := rfl

/-- An entry whose vector can be read is entered, with the vector as any state of the same memory and bus reads it. -/
theorem State.exceptionEntry_entered {s u : State} {n : BitVec 6} {dec : Bool} (control : SameControl s u)
    (memory : SameMemory s u) (outside : SameOutside s u) (guard : dec = true → u.status.cwp ≠ 0#5)
    (inside : (u.status.entered n dec).cwp.toNat < u.nwin) (ret : Word) :
    (∀ r, s.loadWord (s.vectorAddr n) = .ok r →
      ∃ t, u.exceptionEntry n ret dec = .ok t ∧ Entered s t u.rf u.status (u.status.entered n dec).cwp n r ret) ∧
    (∀ stop, s.loadWord (s.vectorAddr n) = .error stop → u.exceptionEntry n ret dec = .error stop) := by
  obtain ⟨j, hj, hlt, -⟩ := State.writeReg_inside (s := u.entering n dec) inside regLink 0#32
  rw [State.exceptionEntry_eq memory outside guard hj hlt ret]
  constructor
  · intro r hr
    exact ⟨_, by rw [hr]; rfl, State.enteredAt_entered control memory outside hj hlt ret r⟩
  · intro stop hstop
    rw [hstop]
    rfl

end Sys2Proof.Machine
end

section
/-! The invariant: every step keeps it, and reset has it. What is stored and the hidden state are two separate halves; an
instruction keeps the first whatever the second is. -/

namespace Sys2Proof.Machine

/-! ## The two halves of the invariant -/

/-- The half of the invariant about memory, the log of stores and the register file. -/
structure State.DataOk (s : State) : Prop where
  memory : Memory.wf s.mem = true
  stores : Assoc.rising s.stores = true
  file : s.FileOk

theorem State.Inv.data {s : State} (hs : s.Inv) : s.DataOk := ⟨hs.memory, hs.stores, hs.file⟩

/-- A file of the same size is as allowed as before. -/
theorem State.FileOk.of_length {s t : State} (hs : s.FileOk) (length : t.rf.length = s.rf.length) : t.FileOk := by
  simpa only [State.FileOk, State.nwin, length] using hs

/-- What stores nothing keeps what is stored. -/
theorem State.DataOk.of_same {s t : State} (hs : s.DataOk) (mem : t.mem = s.mem) (stores : t.stores = s.stores)
    (length : t.rf.length = s.rf.length) : t.DataOk :=
  ⟨mem ▸ hs.memory, stores ▸ hs.stores, hs.file.of_length length⟩

/-- A store inside the address space keeps the canonical forms. -/
theorem State.DataOk.stored {s : State} (hs : s.DataOk) {a : Nat} {vs : List Byte}
    (fits : a + vs.length ≤ Config.addressSpace) (p : Port) : (s.stored p a vs).DataOk where
  memory := by
    cases p with
    | memory => exact Memory.writeAll_wf vs fits hs.memory
    | device => exact hs.memory
  stores := logStores_rising _ _ fits hs.stores
  file := hs.file.of_length (by simp)

/-- The half of the invariant about the hidden state, as every end of an instruction but PFX and a transfer leaves it. -/
structure State.Settled (s : State) : Prop where
  pcEven : s.pc.getLsbD 0 = false
  btarget : s.btarget = none
  k : s.k = 0#11
  pfx : s.pfx = false
  skipAlone : s.skip = true → s.ctl0Hazard = false

/-- The two halves make the invariant. -/
theorem State.DataOk.inv {s : State} (data : s.DataOk) (settled : s.Settled) : s.Inv where
  memory := data.memory
  stores := data.stores
  file := data.file
  pcEven := settled.pcEven
  targetEven t ht := by rw [settled.btarget] at ht; cases ht
  kIdle _ := settled.k
  targetAlone ht := absurd settled.btarget ht
  skipAlone hskip := ⟨settled.pfx, settled.skipAlone hskip⟩
  pfxAlone hpfx := by rw [settled.pfx] at hpfx; cases hpfx

/-- The next instruction in program order lies at an even address. -/
theorem State.Inv.nxt_even {s : State} (hs : s.Inv) : s.nxt.getLsbD 0 = false := by
  cases hb : s.btarget with
  | none => rw [State.nxt, hb]; exact even_add hs.pcEven (by decide)
  | some t => rw [State.nxt, hb]; exact hs.targetEven t hb

/-- The next instruction depends on `pc` and the pending target alone. -/
theorem State.nxt_congr {s t : State} (pc : t.pc = s.pc) (btarget : t.btarget = s.btarget) : t.nxt = s.nxt := by
  rw [State.nxt, State.nxt, pc, btarget]

/-! ## Instructions -/

/-- Everything the end of a register-writing instruction leaves. -/
theorem State.retireReg_next {s t : State} {r : RegNum} {v : Word} {f : Status → Status} (h : s.retireReg r v f = .ok t) :
    Retired s t ∧ t.skip = s.skip ∧ t.status = f s.status ∧ t.mem = s.mem ∧ t.stores = s.stores ∧
      t.rf.length = s.rf.length := by
  obtain ⟨j, -, -, rfl⟩ := State.retireReg_ok.1 h
  exact ⟨⟨rfl, rfl, rfl, rfl, rfl⟩, rfl, rfl, rfl, rfl, by simp⟩

/-- An exception entry stores nothing. -/
theorem State.DataOk.exceptionEntry {s t : State} {n : BitVec 6} {ret : Word} {dec : Bool} (hs : s.DataOk)
    (h : s.exceptionEntry n ret dec = .ok t) : t.DataOk := by
  obtain ⟨j, r, -, -, rfl⟩ := State.exceptionEntry_next h
  exact hs.of_same rfl rfl (by simp [State.enteredAt])

/-- An exception entry leaves an idle hidden state and an even `pc` (R52, R262). -/
theorem State.exceptionEntry_settled {s t : State} {n : BitVec 6} {ret : Word} {dec : Bool}
    (h : s.exceptionEntry n ret dec = .ok t) : t.Settled := by
  obtain ⟨j, r, -, -, rfl⟩ := State.exceptionEntry_next h
  exact ⟨even_double _, rfl, rfl, rfl, fun _ => rfl⟩

/-- An instruction keeps what is stored in canonical form. -/
theorem Effect.dataOk {i : Instr} {s t : State} (e : Effect i s t) (hs : s.DataOk) : t.DataOk := by
  cases e with
  | writesReg p a r v f _ _ ends =>
    obtain ⟨-, -, -, hmem, hstores, hlength⟩ := State.retireReg_next ends
    exact hs.of_same (by simpa using hmem) (by simpa using hstores) (by simpa using hlength)
  | stores p a vs _ fits => exact (hs.stored fits p).of_same rfl rfl rfl
  | transfers u target _ _ _ link =>
    obtain rfl | link := link
    · exact hs.of_same rfl rfl rfl
    · obtain ⟨j, -, -, rfl⟩ := State.writeReg_ok.1 link
      exact hs.of_same rfl rfl (by simp)
  | traps n _ ends => exact hs.exceptionEntry ends
  | opensWindow imm8v v u _ framed ends =>
    have hu : u.DataOk := by
      obtain ⟨j, -, -, rfl⟩ := State.writeReg_ok.1 framed
      exact hs.of_same rfl rfl (by simp)
    obtain ends | rfl := ends
    · exact hu.exceptionEntry ends
    · exact hu.of_same rfl rfl rfl
  | closesWindow _ ends =>
    have hmoved : (s.moveWindow 1#5).DataOk := hs.of_same rfl rfl rfl
    obtain ends | rfl := ends
    · exact hmoved.exceptionEntry ends
    · exact hmoved.of_same rfl rfl rfl
  | compares | skips | setsK | returns | writesStatus | writesControl => exact hs.of_same rfl rfl rfl

/-- An executed instruction keeps the invariant: nothing is being skipped, so what it leaves pending stands alone. -/
theorem Effect.inv {i : Instr} {s t : State} (e : Effect i s t) (hs : s.Inv) (executed : s.skip = false) : t.Inv := by
  have data := e.dataOk hs.data
  have noSkip {p : Prop} (h : s.skip = true) : p := by rw [executed] at h; cases h
  cases e with
  | writesReg p a r v f _ _ ends =>
    obtain ⟨hr, -⟩ := State.retireReg_next ends
    have hpc : t.pc = s.nxt := hr.pc.trans (State.nxt_congr (by simp) (by simp))
    exact data.inv ⟨hpc ▸ hs.nxt_even, hr.btarget, hr.k, hr.pfx, fun _ => hr.ctl0Hazard⟩
  | stores p a vs =>
    have hpc : (s.stored p a vs).retire.pc = s.nxt := State.nxt_congr (by simp) (by simp)
    exact data.inv ⟨hpc ▸ hs.nxt_even, rfl, rfl, rfl, fun _ => rfl⟩
  | transfers u target _ _ even link =>
    have hu : (u.retireTo target).pc = s.nxt ∧ u.skip = false := by
      obtain rfl | link := link
      · exact ⟨rfl, executed⟩
      · obtain ⟨j, -, -, rfl⟩ := State.writeReg_ok.1 link
        exact ⟨rfl, executed⟩
    refine ⟨data.memory, data.stores, data.file, hu.1 ▸ hs.nxt_even, ?_, fun _ => rfl, fun _ => ⟨hu.2, rfl, rfl⟩,
      fun _ => ⟨rfl, rfl⟩, fun _ => rfl⟩
    rintro x ⟨⟩
    exact even hs.pcEven
  | setsK imm11 =>
    exact ⟨data.memory, data.stores, data.file, hs.nxt_even, nofun, nofun, fun h => absurd rfl h, noSkip, fun _ => rfl⟩
  | traps n _ ends => exact data.inv (State.exceptionEntry_settled ends)
  | returns a x => exact data.inv ⟨even_double x, rfl, rfl, rfl, noSkip⟩
  | opensWindow imm8v v u _ framed ends =>
    obtain ends | rfl := ends
    · exact data.inv (State.exceptionEntry_settled ends)
    · obtain ⟨j, -, -, rfl⟩ := State.writeReg_ok.1 framed
      exact data.inv ⟨hs.nxt_even, rfl, rfl, rfl, noSkip⟩
  | closesWindow _ ends =>
    obtain ends | rfl := ends
    · exact data.inv (State.exceptionEntry_settled ends)
    · exact data.inv ⟨hs.nxt_even, rfl, rfl, rfl, noSkip⟩
  | skips holds => exact data.inv ⟨hs.nxt_even, rfl, rfl, rfl, fun _ => rfl⟩
  | compares | writesStatus | writesControl => exact data.inv ⟨hs.nxt_even, rfl, rfl, rfl, noSkip⟩

/-! ## The step -/

/-- The state after the input is consumed and the instruction fetched has the invariant. -/
theorem State.Inv.fetched {s : State} (hs : s.Inv) (p : Port) (a size : Nat) (stored : Option (List Byte)) :
    (s.begin.accessed p a size stored).Inv := by
  obtain ⟨hmemory, hstores, hfile, hpc, htarget, hk, hta, hsa, hpa⟩ := hs
  cases p <;> exact ⟨hmemory, hstores, hfile, hpc, htarget, hk, hta, hsa, hpa⟩

/-- A cancelled instruction keeps the invariant. -/
theorem State.Inv.cancel {s : State} (hs : s.Inv) (i : Instr) : (s.cancel i).Inv :=
  State.DataOk.inv (s := s.cancel i) (hs.data.of_same rfl rfl rfl) ⟨hs.nxt_even, rfl, rfl, rfl, fun _ => rfl⟩

/-- A decoded instruction keeps the invariant, cancelled or executed. -/
theorem Decoded.run_inv {d : Decoded} {t : State} (hs : d.after.Inv) (h : d.run = .next t) : t.Inv := by
  unfold Decoded.run at h
  split at h
  · cases h; exact hs.cancel d.instr
  · next executed =>
    split at h
    · cases h
    · exact (exec_effect h).inv hs (Bool.eq_false_iff.2 executed)

/-- Settles O58: an interrupt leaves the hidden state idle, and a fetched instruction keeps the invariant. -/
theorem stepKeepsInvariant : Obligations.StepKeepsInvariant := by
  intro s t hs h
  unfold step stepCore at h
  split at h
  · have h := outcome_eq_next.1 h
    have data : s.dropInput.DataOk := hs.data.of_same rfl rfl rfl
    exact (data.exceptionEntry h).inv (State.exceptionEntry_settled h)
  · unfold State.runInstruction at h
    split at h
    · cases outcome_eq_next.1 h
    · next d hd =>
      obtain ⟨lo, hi, hfetch, -⟩ := State.fetchDecode_ok.1 hd
      obtain ⟨p, -, -, -, hafter, -⟩ := State.fetchBytes_ok.1 hfetch
      have hafter : d.after = s.begin.accessed p s.begin.fetchAddr 2 none := hafter
      exact Decoded.run_inv (hafter ▸ hs.fetched ..) h

/-! ## Reset -/

/-- Settles O59: at reset the hidden state is idle and nothing has been stored. -/
theorem resetHasInvariant : Obligations.ResetHasInvariant := by
  have powerUp_inv (u : PowerUp) (file : (State.powerUp u).FileOk) (even : u.resetAddr.getLsbD 0 = false)
      (mem : Memory.wf u.mem = true) : (State.powerUp u).Inv :=
    State.DataOk.inv ⟨mem, rfl, file⟩ ⟨even, rfl, rfl, rfl, fun _ => rfl⟩
  refine ⟨powerUp_inv PowerUp.default ?_ (by decide) rfl, powerUp_inv⟩
  change State.reset.FileOk
  rw [State.FileOk, State.reset_nwin, State.reset_rf_length]
  decide

end Sys2Proof.Machine
end

section
/-! The execution cycle (R47): what is fetched, and what becomes of the instruction it decodes to. -/

namespace Sys2Proof.Machine

/-! ## A decoded instruction -/

/-- With no interrupt taken, the step runs what the fetched bytes decode to. -/
theorem step_of_fetched {s u : State} {lo hi : Byte} {i : Instr} (quiet : s.interruptTaken = none)
    (fetch : s.begin.fetchBytes = .ok { bytes := [lo, hi], after := u }) (decode : decodeWord (wordOfBytes lo hi) = .ok i)
    (listed : i.isListed = true) : step s = Decoded.run { word := wordOfBytes lo hi, instr := i, after := u } := by
  have hd : s.begin.fetchDecode = .ok { word := wordOfBytes lo hi, instr := i, after := u } :=
    State.fetchDecode_ok.2 ⟨lo, hi, fetch, rfl, decode, listed⟩
  simp only [step, stepCore, quiet, State.runInstruction, hd]

/-- Where an instruction is being skipped it is cancelled (R43). -/
theorem Decoded.run_skipped {d : Decoded} (h : d.after.skip = true) : d.run = .next (d.after.cancel d.instr) := by
  simp only [Decoded.run, h, if_true]

/-- A hazard stops the instruction (R47 (d)). -/
theorem Decoded.run_hazard {d : Decoded} {f : Fault} (executed : d.after.skip = false)
    (h : d.after.hazard d.word d.instr = some f) : d.run = .fault f := by
  simp [Decoded.run, executed, h]

/-- Without a hazard the instruction is executed. -/
theorem Decoded.run_executed {d : Decoded} (executed : d.after.skip = false)
    (h : d.after.hazard d.word d.instr = none) : d.run = exec d.instr d.after := by
  simp [Decoded.run, executed, h]

/-! ## Hazards -/

/-- In a delay slot a forbidden instruction is the first hazard (R299). -/
theorem State.hazard_slot {s : State} {i : Instr} (pending : s.btarget ≠ none) (forbidden : forbiddenInSlot i = true)
    (w : HalfWord) : s.hazard w i = some .forbiddenDelaySlot := by
  simp [State.hazard, forbidden, Option.isSome_iff_ne_none.2 pending]

/-- Outside a delay slot anything but NOP after a WRCTL to STATUS is a hazard (R46). -/
theorem State.hazard_nop {s : State} {w : HalfWord} (noTarget : s.btarget = none) (after : s.ctl0Hazard = true)
    (notNop : w ≠ nopWord) (i : Instr) : s.hazard w i = some .nopRequiredAfterWrctlStatus := by
  simp [State.hazard, noTarget, after, notNop]

/-- An allowed instruction, NOP if one is due, meets no hazard. -/
theorem State.hazard_none {s : State} {w : HalfWord} {i : Instr} (slot : s.btarget = none ∨ forbiddenInSlot i = false)
    (nop : s.ctl0Hazard = false ∨ w = nopWord) : s.hazard w i = none := by
  obtain slot | slot := slot <;> obtain nop | nop := nop <;> simp [State.hazard, slot, nop]

/-- The mnemonics of R299's list are those of the instructions a slot may not hold. -/
theorem forbiddenInSlot_of_mnemonic {i : Instr}
    (h : i.mnemonic ∈ ["BR", "BSR", "JMP", "CALL", "SKP0", "SKP1", "SKPRZ", "SKPRNZ", "SKPS", "PFX", "TRAP", "TRET"]) :
    forbiddenInSlot i = true := by
  cases i with
  | br | bsr | jmp | call | skp0 | skp1 | skprz | skprnz | skps | pfx | trap | tret => rfl
  | _ => simp [Instr.mnemonic] at h

/-- PFX is the one instruction that a skip passes over. -/
theorem isPfx_iff {i : Instr} : isPfx i = true ↔ ∃ imm11, i = .pfx imm11 := by
  constructor
  · intro h
    cases i with
    | pfx imm11 => exact ⟨imm11, rfl⟩
    | _ => cases h
  · rintro ⟨imm11, rfl⟩
    rfl

/-! ## The fetch -/

/-- A fetch makes one access of two bytes, and leaves the rest as it was. -/
theorem State.fetchBytes_after {s : State} {f : Fetched} (h : s.fetchBytes = .ok f) :
    ∃ p, s.readPort s.fetchAddr = .ok p ∧ f.after = s.accessed p s.fetchAddr 2 none ∧
      f.bytes = [f.after.answer p s.fetchAddr, f.after.answer p (s.fetchAddr + 1)] := by
  obtain ⟨p, hp, -, -, hafter, hbytes⟩ := State.fetchBytes_ok.1 h
  exact ⟨p, hp, hafter, hbytes⟩

/-- The next instruction in program order is the same after an access. -/
@[simp] theorem State.accessed_nxt (s : State) (p : Port) (a size : Nat) (vs : Option (List Byte)) :
    (s.accessed p a size vs).nxt = s.nxt :=
  State.nxt_congr (by simp) (by simp)

/-- Fetch reads half-word lane `pc[1]` of the aligned word (R64). -/
theorem State.fetchAddr_eq (s : State) :
    s.fetchAddr = s.pc.toNat / 4 * 4 % 2 ^ s.platform.addrBits + 2 * (s.pc.toNat / 2 % 2) := by
  have hlane : (if s.pc.getLsbD 1 = true then 2 else 0) = 2 * (s.pc.toNat / 2 % 2) := by
    have hbit : s.pc.getLsbD 1 = decide (s.pc.toNat / 2 % 2 = 1) := Nat.testBit_eq_decide_div_mod_eq
    simp only [hbit, decide_eq_true_eq]
    split <;> omega
  rw [State.fetchAddr, State.wordAddr_eq, hlane]

/-- For an even `pc` the lane is the bus address of `pc` itself. -/
theorem State.fetchAddr_of_even {s : State} (even : s.pc.getLsbD 0 = false) (bits : 2 ≤ s.platform.addrBits) :
    s.fetchAddr = s.pc.toNat % 2 ^ s.platform.addrBits := by
  obtain ⟨n, hn⟩ := Nat.exists_eq_add_of_le bits
  have hpow : 2 ^ s.platform.addrBits = 4 * 2 ^ n := by rw [hn, Nat.pow_add]
  rw [State.fetchAddr_eq, hpow, Nat.mul_comm (_ / 4), Nat.mul_mod_mul_left, Nat.mod_mul]
  have heven := even_iff.1 even
  omega

/-- The fetch is of bytes memory holds or a device answers (R64, R68, R69). -/
theorem State.fetchesAtPc_of_fetch {s u : State} {lo hi : Byte}
    (h : s.begin.fetchBytes = .ok { bytes := [lo, hi], after := u }) : FetchesAtPc s u lo hi := by
  obtain ⟨p, hp, hafter, hbytes⟩ := State.fetchBytes_after h
  have hafter : u = s.begin.accessed p s.fetchAddr 2 none := hafter
  have hp : s.readPort s.fetchAddr = .ok p := hp
  have hbytes : [lo, hi] = [u.answer p s.fetchAddr, u.answer p (s.fetchAddr + 1)] := hbytes
  cases hbytes
  constructor
  · intro readable
    rw [State.readPort_memory.2 readable] at hp
    cases hp
    subst hafter
    exact ⟨rfl, rfl, rfl⟩
  · intro w hw
    rw [State.readPort_device.2 ⟨w, hw⟩] at hp
    cases hp
    exact ⟨hafter, rfl, rfl⟩

/-- A byte nothing has stored to has not been stored to too lately (R77). -/
theorem State.storedTooLately_of_find {s : State} {a : Nat} (h : Assoc.find a s.stores = none) :
    s.storedTooLately a = false := by
  simp only [State.storedTooLately, h]

/-- A fetch the platform answers, of bytes nothing has stored to, completes. -/
theorem State.fetchBytes_of_readPort {s : State} {p : Port} (hp : s.readPort s.fetchAddr = .ok p)
    (hlo : Assoc.find s.fetchAddr s.stores = none) (hhi : Assoc.find (s.fetchAddr + 1) s.stores = none) :
    s.fetchBytes = .ok
      { bytes := [(s.accessed p s.fetchAddr 2 none).answer p s.fetchAddr,
          (s.accessed p s.fetchAddr 2 none).answer p (s.fetchAddr + 1)]
        after := s.accessed p s.fetchAddr 2 none } :=
  State.fetchBytes_ok.2 ⟨p, hp, State.storedTooLately_of_find hlo, State.storedTooLately_of_find hhi, rfl, rfl⟩

/-- Settles O7: the fetch address and the bytes fetched by the lemmas above; then `exec` of the instruction decoded, since
neither a skip nor a hazard stands in its way. -/
theorem stepRunsDecodedInstruction : Obligations.StepRunsDecodedInstruction := by
  intro s
  refine ⟨rfl, s.fetchAddr_eq, State.fetchAddr_of_even, fun u lo hi => State.fetchesAtPc_of_fetch, ?_, ?_⟩
  · intro p hp hlo hhi
    exact ⟨_, _, _, State.fetchBytes_of_readPort (s := s.begin) hp hlo hhi⟩
  · intro u lo hi i quiet fetch decode listed executed slot nop
    obtain ⟨p, -, rfl, -⟩ := State.fetchBytes_after fetch
    rw [step_of_fetched quiet fetch decode listed]
    exact Decoded.run_executed (by simpa using executed) (State.hazard_none (by simpa using slot) (by simpa [nopWord] using nop))

/-- Settles O8: the step is `cancel`, of the state after the fetch. -/
theorem skippedInstructionIsCancelled : Obligations.SkippedInstructionIsCancelled := by
  intro s u lo hi i quiet fetch decode listed skipped
  obtain ⟨p, -, rfl, -⟩ := State.fetchBytes_after fetch
  refine ⟨_, (step_of_fetched quiet fetch decode listed).trans (Decoded.run_skipped (by simpa using skipped)), ?_, ?_, ?_, ?_⟩
  · exact ⟨rfl, ⟨rfl, rfl, rfl⟩, ⟨fun _ => rfl, rfl⟩, ⟨⟨rfl, rfl, rfl⟩, rfl⟩⟩
  · exact ⟨State.accessed_nxt .., rfl, rfl, rfl, rfl⟩
  · exact State.accessed_status ..
  · exact isPfx_iff

/-- Settles O11: each hazard is met before the instruction is executed. -/
theorem hazardsStopTheStep : Obligations.HazardsStopTheStep := by
  intro s u lo hi i quiet fetch decode listed executed
  obtain ⟨p, -, rfl, -⟩ := State.fetchBytes_after fetch
  rw [step_of_fetched quiet fetch decode listed]
  refine ⟨fun pending forbidden => ?_, fun noTarget after notNop => ?_⟩
  · exact Decoded.run_hazard (by simpa using executed)
      (State.hazard_slot (by simpa using pending) (forbiddenInSlot_of_mnemonic forbidden) _)
  · have hword : wordOfBytes lo hi ≠ nopWord := by
      intro hw
      have hnop : decodeWord nopWord = .ok (.mov 0#5 0#5) := by decide
      rw [hw, hnop] at decode
      cases decode
      exact notNop rfl
    exact Decoded.run_hazard (by simpa using executed)
      (State.hazard_nop (by simpa using noTarget) (by simpa using after) hword i)

end Sys2Proof.Machine
end

section
/-! What every executed instruction leaves of K, CWP and the pending target, by the ways an instruction ends. -/

namespace Sys2Proof.Machine

/-- PFX is no instruction that may stand in a delay slot (R299). -/
theorem ne_pfx_of_slot {i : Instr} (slot : forbiddenInSlot i = false) (imm11 : BitVec 11) : i ≠ .pfx imm11 := by
  rintro rfl
  cases slot

/-- Settles O25: PFX is `retire` with K and `pfx` set. -/
theorem prefixSetsK : Obligations.PrefixSetsK := by
  intro s imm11
  exact ⟨_, rfl, ⟨rfl, ⟨rfl, rfl, rfl⟩, ⟨fun _ => rfl, rfl⟩, ⟨⟨rfl, rfl, rfl⟩, rfl⟩⟩, rfl, rfl, rfl, rfl, rfl, rfl, rfl⟩

/-- Every end of an instruction but that of PFX clears K and `pfx` (R41, R42). -/
theorem Effect.clears_k {i : Instr} {s t : State} (e : Effect i s t) (notPfx : ∀ imm11, i ≠ .pfx imm11) :
    t.pfx = false ∧ t.k = 0#11 := by
  cases e with
  | writesReg p a r v f _ _ ends =>
    obtain ⟨hr, -⟩ := State.retireReg_next ends
    exact ⟨hr.pfx, hr.k⟩
  | setsK imm11 is => exact absurd is (notPfx imm11)
  | traps n _ ends =>
    have hidle := State.exceptionEntry_settled ends
    exact ⟨hidle.pfx, hidle.k⟩
  | opensWindow imm8v v u _ _ ends =>
    obtain ends | rfl := ends
    · have hidle := State.exceptionEntry_settled ends
      exact ⟨hidle.pfx, hidle.k⟩
    · exact ⟨rfl, rfl⟩
  | closesWindow _ ends =>
    obtain ends | rfl := ends
    · have hidle := State.exceptionEntry_settled ends
      exact ⟨hidle.pfx, hidle.k⟩
    · exact ⟨rfl, rfl⟩
  | compares | stores | skips | transfers | returns | writesStatus | writesControl => exact ⟨rfl, rfl⟩

/-- Settles O26: PFX sets K and `pfx`, and every other instruction clears them. -/
theorem onlyPrefixLeavesK : Obligations.OnlyPrefixLeavesK := by
  intro i s t h
  by_cases hi : ∃ imm11, i = .pfx imm11
  · obtain ⟨imm11, rfl⟩ := hi
    cases h
    exact .inl ⟨rfl, rfl⟩
  · have notPfx : ∀ imm11, i ≠ .pfx imm11 := fun imm11 is => hi ⟨imm11, is⟩
    obtain ⟨hpfx, hk⟩ := (exec_effect h).clears_k notPfx
    exact .inr ⟨hpfx, hk, notPfx⟩

/-- An exception that is entered holds its return address in the link register of the handler's window (R262). -/
theorem State.exceptionEntry_link {s t : State} {n : BitVec 6} {ret : Word} {dec : Bool}
    (h : s.exceptionEntry n ret dec = .ok t) : t.readReg regLink = .ok (BitVec.ofNat 32 (ret.toNat / 2)) := by
  obtain ⟨j, r, hj, hlt, rfl⟩ := State.exceptionEntry_next h
  exact State.enteredAt_readReg_link hj hlt ret r

/-- With a target pending, the next instruction in program order is the target (R45). -/
theorem State.nxt_of_btarget {s : State} {target : Word} (h : s.btarget = some target) : s.nxt = target := by
  rw [State.nxt, h, Option.getD_some]

/-- An instruction allowed in a slot goes on at the next instruction in program order, or enters a window exception that
returns there, and nothing is pending. -/
theorem Effect.slot_continues {i : Instr} {s t : State} (e : Effect i s t) (slot : forbiddenInSlot i = false) :
    t.btarget = none ∧ (t.pc = s.nxt ∨
      ((i = .restore ∨ ∃ imm8v, i = .save imm8v) ∧ t.readReg regLink = .ok (BitVec.ofNat 32 (s.nxt.toNat / 2)))) := by
  cases e with
  | writesReg p a r v f _ _ ends =>
    obtain ⟨hr, -⟩ := State.retireReg_next ends
    exact ⟨hr.btarget, .inl (hr.pc.trans (State.accessed_nxt ..))⟩
  | stores p a vs => exact ⟨rfl, .inl (State.nxt_congr (State.stored_pc ..) (State.stored_btarget ..))⟩
  | opensWindow imm8v v u is framed ends =>
    obtain ends | rfl := ends
    · exact ⟨(State.exceptionEntry_settled ends).btarget, .inr ⟨.inr ⟨imm8v, is⟩, State.exceptionEntry_link ends⟩⟩
    · obtain ⟨j, -, -, rfl⟩ := State.writeReg_ok.1 framed
      exact ⟨rfl, .inl rfl⟩
  | closesWindow is ends =>
    obtain ends | rfl := ends
    · exact ⟨(State.exceptionEntry_settled ends).btarget, .inr ⟨.inl is, State.exceptionEntry_link ends⟩⟩
    · exact ⟨rfl, .inl rfl⟩
  | compares | writesStatus | writesControl => exact ⟨rfl, .inl rfl⟩
  | skips _ forbidden | transfers _ _ forbidden => rw [slot] at forbidden; cases forbidden
  | setsK _ is | traps _ is | returns _ _ is => subst is; cases slot

/-- Settles O43: the next instruction in program order is then the target. -/
theorem slotContinuesAtTarget : Obligations.SlotContinuesAtTarget := by
  intro i s t target pending slot h
  have hslot := (exec_effect h).slot_continues slot
  rwa [State.nxt_of_btarget pending] at hslot

/-- Settles O57: the other ways an instruction ends leave CWP, whatever they do to the flags. -/
theorem onlyWindowInstructionsChangeCwp : Obligations.OnlyWindowInstructionsChangeCwp := by
  intro i s t h changed
  cases exec_effect h with
  | writesReg p a r v f _ cwp ends =>
    obtain ⟨-, -, hstatus, -⟩ := State.retireReg_next ends
    exact absurd (by rw [hstatus, cwp, State.accessed_status]) changed
  | compares f _ cwp => exact absurd (cwp s.status) changed
  | stores p a vs => exact absurd (by simp) changed
  | transfers u target _ _ _ link =>
    obtain rfl | link := link
    · exact absurd rfl changed
    · obtain ⟨j, -, -, rfl⟩ := State.writeReg_ok.1 link
      exact absurd rfl changed
  | skips | setsK | writesControl => exact absurd rfl changed
  | traps n is => exact .inr (.inr (.inl ⟨n, is⟩))
  | returns a x is => exact .inr (.inr (.inr (.inl ⟨a, is⟩)))
  | opensWindow imm8v v u is => exact .inr (.inl ⟨imm8v, is⟩)
  | closesWindow is => exact .inl is
  | writesStatus a x is k => exact .inr (.inr (.inr (.inr ⟨a, is, k⟩)))

end Sys2Proof.Machine
end

section
/-! The register window (R23, R24): which physical register a visible one is, and that every use of a windowed register in a
window the file does not have stops the instruction. -/

namespace Sys2Proof.Machine

/-! ## The window mapping -/

/-- A global register is the physical register of its number (R23). -/
theorem State.physIndex_global {s : State} {i : RegNum} (hi : i.toNat < 8) : s.physIndex i = some i.toNat := by
  rw [State.physIndex, if_pos hi]

/-- A register of a window inside the file lies at its place in that window (R23). -/
theorem State.physIndex_window {s : State} {i : RegNum} (hi : 8 ≤ i.toNat) (inside : s.status.cwp.toNat < s.nwin) :
    s.physIndex i = some (8 + 16 * s.status.cwp.toNat + (i.toNat - 8)) := by
  rw [State.physIndex, if_neg (Nat.not_lt.2 hi), if_pos inside]

/-- A visible register reads the physical register it names. -/
theorem State.readReg_of_physIndex {s : State} {i : RegNum} {j : Nat} (hj : s.physIndex i = some j) (hlt : j < s.rf.length) :
    ∃ v, s.rf[j]? = some v ∧ s.readReg i = .ok v :=
  ⟨s.rf[j], List.getElem?_eq_getElem hlt, State.readReg_ok.2 ⟨j, hj, List.getElem?_eq_getElem hlt⟩⟩

/-- Two visible registers that name one physical register of the same file read the same. -/
theorem State.readReg_congr {s t : State} {i k : RegNum} (index : t.physIndex k = s.physIndex i) (file : t.rf = s.rf) :
    t.readReg k = s.readReg i := by
  rw [State.readReg, State.readReg, index, file]

/-- The out registers of a window are the in registers of the window below it (R23, decision D10). -/
theorem State.readReg_overlap {s t : State} {i : RegNum} (hi : 24 ≤ i.toNat) (file : t.rf = s.rf)
    (cwp : t.status.cwp.toNat = s.status.cwp.toNat + 1) (inside : t.status.cwp.toNat < t.nwin) :
    t.readReg (i - 16#5) = s.readReg i := by
  have hout : (i - 16#5).toNat = i.toNat - 16 := by bv_omega
  have hnwin : t.nwin = s.nwin := by rw [State.nwin, State.nwin, file]
  refine State.readReg_congr ?_ file
  rw [State.physIndex_window (by omega) inside, State.physIndex_window (by omega) (by omega), hout, cwp]
  congr 1
  omega

/-- Settles O13: the mapping is `physIndex`, and every physical register it names is in the file. -/
theorem registerWindowMapping : Obligations.RegisterWindowMapping := by
  intro s i file
  obtain ⟨length, atLeast, atMost⟩ := file
  have hi : i.toNat < 32 := i.isLt
  refine ⟨fun global => ?_, fun windowed inside => ?_, State.readReg_outside, fun isIn inside => ?_⟩
  · exact State.readReg_of_physIndex (State.physIndex_global global) (by omega)
  · exact State.readReg_of_physIndex (State.physIndex_window windowed inside) (by omega)
  · have cwp : (s.moveWindow 1#5).status.cwp.toNat = s.status.cwp.toNat + 1 := by
      rw [State.moveWindow_status, BitVec.toNat_add_of_lt (by simpa using by omega)]
      rfl
    exact State.readReg_overlap isIn rfl cwp (cwp ▸ inside)

/-- SAVE's new window is the one below (R24, R236). -/
theorem State.moveWindow_down_cwp (s : State) : (s.moveWindow (-1#5)).status.cwp = s.status.cwp - 1#5 :=
  (BitVec.sub_eq_add_neg s.status.cwp 1#5).symm

/-! ## Uses of registers outside the file -/

/-- The registers an instruction reads, and then the one it writes, whatever it reads there: up to the first operation that
can stop for another reason. -/
def usedRegs : Instr → List RegNum
  | .add a b | .sub a b | .lsl a b | .lsr a b | .asr a b | .ext8d a b | .ext16d a b => [a, b, a]
  | .mov a b => [b, a]
  | .addi a _ | .subi a _ | .neg a | .abs a | .not a | .lsli a _ | .lsri a _ | .asri a _ | .rlc a | .rrc a | .movhi a _
  | .ext8s a _ | .ext16s a _ | .sext8 a | .sext16 a | .swap a => [a, a]
  | .fill8 a | .fill16 a => [a, regZero]
  | .mstep a | .mul a => [regZero, a, regZero]
  | .movi a _ | .bgen a _ => [a]
  | .cmp a b | .usr0 a b => [a, b]
  | .usr1 a | .usr2 a | .usr3 a | .usr4 a | .st8d a | .st8s a _ | .st16d a | .st16s a _ => [a, regZero]
  | .cmpi a _ | .and a _ | .andn a _ | .or a _ | .xor a _ | .wrctl a | .jmp a | .tret a | .skp0 a _ | .skp1 a _ | .skprz a
  | .skprnz a => [a]
  | .ld _ b => [b]
  | .st a b => [b, a]
  | .ldp _ p _ => [regPointer p]
  | .stp a p _ => [regPointer p, a]
  | .lds _ _ => [regSp]
  | .sts a _ => [regSp, a]
  | .sts8s _ | .sts16s _ => [regSp, regZero]
  | .call a => [a, regLink]
  | .bsr _ => [regLink]
  | .rdctl _ | .save _ | .restore | .trap _ | .skps _ | .br _ | .pfx _ => []
  | .unused011101010 _ | .unused011101011 _ | .unlisted011101110 _ | .unlisted011101111 _ | .unlisted01111010 _
  | .unlisted01111011 _ | .unused01111100111 _ | .unused01111101111 _ | .unused01111111011 _ | .unused01111111100 _
  | .unused01111111101 _ | .unlisted10010 _ => []

/-- The fault of R24. -/
abbrev outOfFile {α : Type} : Except Stop α := .error (.fault .windowOutOfFile)

/-- An instruction that writes a register outside the file stops there. -/
theorem State.retireReg_outside {s : State} {a : RegNum} (ha : 8 ≤ a.toNat) (hout : s.nwin ≤ s.status.cwp.toNat) (v : Word)
    (f : Status → Status) : s.retireReg a v f = outOfFile := by
  rw [State.retireReg, State.writeReg_outside ha hout, bind_error]

section Uses

variable {s : State} {r a : RegNum} (hr : 8 ≤ r.toNat) (hout : s.nwin ≤ s.status.cwp.toNat)

include hr hout

/-- One of the registers in use lies outside the file: the one read now, or one used after it. -/
theorem State.readReg_then_outOfFile {rest : List RegNum} {f : Word → Except Stop State} (mem : r ∈ a :: rest)
    (later : r ∈ rest → ∀ x, f x = outOfFile) : (s.readReg a >>= f) = outOfFile := by
  obtain rfl | mem := List.mem_cons.1 mem
  · rw [State.readReg_outside hr hout, bind_error]
  · cases hx : s.readReg a with
    | error e => rw [bind_error, State.readReg_error hx]
    | ok x => exact later mem x

/-- The register written at the end lies outside the file. -/
theorem State.retireReg_outOfFile (mem : r ∈ [a]) {v : Word} {f : Status → Status} : s.retireReg a v f = outOfFile := by
  rw [← List.mem_singleton.1 mem]
  exact State.retireReg_outside hr hout v f

/-- An instruction that uses a windowed register in a window the file does not have stops (R24). -/
theorem exec_outOfFile {i : Instr} (mem : r ∈ usedRegs i) : exec i s = .fault .windowOutOfFile := by
  have unused {p : Prop} (h : r ∈ ([] : List RegNum)) : p := absurd h List.not_mem_nil
  cases i with
  | add | sub | lsl | lsr | asr | ext8d | ext16d | mstep | mul =>
    exact congrArg outcome (State.readReg_then_outOfFile hr hout mem fun mem _ =>
      State.readReg_then_outOfFile hr hout mem fun mem _ => State.retireReg_outOfFile hr hout mem)
  | addi | subi | neg | abs | not | lsli | lsri | asri | rlc | rrc | mov | movhi | ext8s | ext16s | sext8 | sext16 | swap
  | fill8 | fill16 =>
    exact congrArg outcome (State.readReg_then_outOfFile hr hout mem fun mem _ => State.retireReg_outOfFile hr hout mem)
  | movi | bgen => exact congrArg outcome (State.retireReg_outOfFile hr hout mem)
  | cmp | usr0 | usr1 | usr2 | usr3 | usr4 | st | stp | sts | st8d | st8s | st16d | st16s | sts8s | sts16s =>
    exact congrArg outcome (State.readReg_then_outOfFile hr hout mem fun mem _ =>
      State.readReg_then_outOfFile hr hout mem unused)
  | cmpi | and | andn | or | xor | wrctl | jmp | tret | skp0 | skp1 | skprz | skprnz | ld | ldp | lds =>
    exact congrArg outcome (State.readReg_then_outOfFile hr hout mem unused)
  | call =>
    refine congrArg outcome (State.readReg_then_outOfFile hr hout mem fun mem _ => ?_)
    rw [← List.mem_singleton.1 mem, State.writeReg_outside hr hout, bind_error]
  | bsr =>
    change outcome (s.writeReg regLink s.link >>= _) = _
    rw [← List.mem_singleton.1 mem, State.writeReg_outside hr hout, bind_error, outcome_fault]
  | _ => exact unused mem

end Uses

/-- The pointer registers are windowed (R27). -/
theorem regPointer_windowed (p : BitVec 2) : 8 ≤ (regPointer p).toNat := by
  revert p
  decide

/-- Where `K` selects a control register, RDCTL reads it (R37). -/
theorem State.readControl_of_some {s : State} {c : Control} (h : controlOf s.platform.controlMap s.k = some c) :
    ∃ v, s.readControl = .ok v := by
  rw [State.readControl, h]
  cases c <;> exact ⟨_, rfl⟩

/-- A register in place of an immediate is read (R97). -/
theorem State.logicOperand_register {s : State} (h : s.pfx = false) (b : BitVec 5) : s.logicOperand b = s.readReg b := by
  simp [State.logicOperand, h]

/-- Settles O14: SAVE reads `%fp` and TRAP writes the link in the new window; RDCTL and LD write their register after an
operation that has not stopped; the second operand of the logic instructions is read; every other instruction of the list
uses such a register first. -/
theorem registersOutsideFileStop : Obligations.RegistersOutsideFileStop := by
  intro s a b p imm1u imm2u imm5 imm6v imm8 imm9 imm10 imm11
  refine ⟨fun hnew => ⟨?_, fun notZero => ?_⟩,
    fun ha hout => ⟨fun selects => ?_, fun base r hbase hload => ?_, fun noPfx => ?_, ?_⟩⟩
  · have hread : (s.moveWindow (-1#5)).readReg regFp = outOfFile :=
      State.readReg_outside (by decide) (s.moveWindow_down_cwp ▸ hnew)
    change outcome ((s.moveWindow (-1#5)).readReg regFp >>= _) = _
    rw [hread, bind_error, outcome_fault]
  · exact congrArg outcome (State.exceptionEntry_outside (n := imm6v) (dec := true) (fun _ => notZero) hnew _)
  · have hsome : controlOf s.platform.controlMap s.k ≠ none := by
      rw [Ne, controlOf_none]
      rintro ⟨h0, h1, h2⟩
      exact selects.elim h0 (Or.rec h1 h2)
    obtain ⟨c, hc⟩ := Option.ne_none_iff_exists'.1 hsome
    obtain ⟨v, hv⟩ := State.readControl_of_some hc
    change outcome (s.readControl >>= _) = _
    rw [hv, bind_ok, State.retireReg_outside ha hout, outcome_fault]
  · obtain ⟨port, -, hafter, -⟩ := State.loadWord_ok.1 hload
    have hstop := State.retireReg_outside (s := r.after) ha (by simpa [hafter, State.nwin] using hout) r.value keepFlags
    change outcome (s.readReg b >>= _) = _
    rw [hbase, bind_ok, hload, bind_ok, hstop, outcome_fault]
  · have stops (f : Word → Word → Except Stop State) :
        outcome (s.readReg b >>= fun x => s.logicOperand a >>= f x) = .fault .windowOutOfFile := by
      rw [State.logicOperand_register noPfx]
      exact congrArg outcome (State.readReg_then_outOfFile ha hout (List.mem_cons_of_mem b (List.mem_singleton_self a))
        fun mem x => State.readReg_then_outOfFile ha hout mem fun h => absurd h List.not_mem_nil)
    exact List.forall_mem_cons.2 ⟨stops _, List.forall_mem_cons.2 ⟨stops _, List.forall_mem_cons.2 ⟨stops _,
      List.forall_mem_singleton.2 (stops _)⟩⟩⟩
  · have stops {i : Instr} (use : ∃ r ∈ usedRegs i, 8 ≤ r.toNat) : exec i s = .fault .windowOutOfFile := by
      obtain ⟨r, mem, hr⟩ := use
      exact exec_outOfFile hr hout mem
    refine fun i hi => stops ?_
    revert i
    simp only [List.forall_mem_cons]
    simp [usedRegs, ha, regPointer_windowed, regSp, regLink]

end Sys2Proof.Machine
end

section
/-! The window and control-register instructions (R236 to R240). -/

namespace Sys2Proof.Machine

/-! ## Registers after a write -/

/-- Writing one visible register leaves the others. -/
theorem State.readReg_set_other {s t : State} {i k : RegNum} {j : Nat} {v : Word} (hj : s.physIndex i = some j) (hne : k ≠ i)
    (hrf : t.rf = s.rf.set j v) (hc : t.status.cwp = s.status.cwp) : t.readReg k = s.readReg k := by
  have hindex : t.physIndex k = s.physIndex k := State.physIndex_congr (by rw [hrf, List.length_set]) hc k
  rw [State.readReg, State.readReg, hindex]
  cases hk : s.physIndex k with
  | none => rfl
  | some l =>
    have hl : j ≠ l := by
      rintro rfl
      exact hne (State.physIndex_inj hk hj)
    simp only [Option.bind_some, hrf, List.getElem?_set_ne hl]

/-- The end of a register-writing instruction, where the register is in the file: the value, the flags, and nothing else. -/
theorem State.retireReg_writesOnly {s : State} {i : RegNum} {x : Word} (readable : s.readReg i = .ok x) (v : Word)
    {f : Status → Status} (cwp : ∀ y, (f y).cwp = y.cwp) :
    ∃ t, s.retireReg i v f = .ok t ∧ t.status = f s.status ∧ WritesOnly s t i v := by
  obtain ⟨j, hj, hlt, -⟩ := State.writeReg_of_readReg readable v
  refine ⟨_, State.retireReg_ok.2 ⟨j, hj, hlt, rfl⟩, rfl, ?_⟩
  exact ⟨State.readReg_set hj hlt rfl (cwp _), SameFileBut.of_set hj rfl, ⟨rfl, rfl, rfl⟩, ⟨fun _ => rfl, rfl⟩,
    ⟨⟨rfl, rfl, rfl⟩, rfl⟩, ⟨rfl, rfl, rfl, rfl, rfl⟩, rfl⟩

/-! ## SAVE and RESTORE -/

/-- An exception is accepted where exceptions are enabled and its number is below the threshold (R251). -/
theorem State.accepts_iff {s : State} {n : BitVec 6} :
    s.accepts n = true ↔ s.status.ie = true ∧ n.toNat < s.status.ipri.toNat := by
  simp [State.accepts, BitVec.lt_def]

/-- Away from the limit, disabled or masked, a window exception is not due (R236, R238). -/
theorem State.noException {s : State} {limit : BitVec 5} {n : BitVec 6}
    (h : s.status.cwp ≠ limit ∨ s.status.ie = false ∨ s.status.ipri.toNat ≤ n.toNat) :
    ¬ (s.status.cwp = limit ∧ s.accepts n = true) := by
  rw [State.accepts_iff]
  rintro ⟨atLimit, enabled, below⟩
  obtain h | h | h := h
  · exact h atLimit
  · rw [enabled] at h; cases h
  · exact absurd below (Nat.not_lt.2 h)

/-- SAVE with the frame of the new window written (R236): underflow, or the end of the instruction. -/
theorem exec_save {s u : State} {imm8v : BitVec 8} {fp : Word} (hfp : (s.moveWindow (-1#5)).readReg regFp = .ok fp)
    (hu : (s.moveWindow (-1#5)).writeReg regSp (fp - imm8v.zeroExtend 32 * 4#32) = .ok u) :
    exec (.save imm8v) s =
      if s.status.cwp = s.loLimit ∧ s.accepts 1#6 then outcome (u.exceptionEntry 1#6 s.nxt false) else .next u.retire := by
  simp only [exec, execSave, hfp, hu, bind_ok]
  split <;> rfl

/-- RESTORE (R238): overflow, or the end of the instruction. -/
theorem exec_restore (s : State) :
    exec .restore s =
      if s.status.cwp = s.hiLimit ∧ s.accepts 2#6 then outcome ((s.moveWindow 1#5).exceptionEntry 2#6 s.nxt true)
      else .next (s.moveWindow 1#5).retire := by
  simp only [exec, execRestore]
  split <;> rfl

/-- SAVE's frame size in bytes is four times its immediate. -/
theorem frameSize_eq (imm8v : BitVec 8) : imm8v.zeroExtend 32 * 4#32 = BitVec.ofNat 32 (4 * imm8v.toNat) := by
  bv_omega

/-- Settles O51: `%fp` of the new window is `%sp` of the old by the overlap, and the write of `%sp` leaves it. -/
theorem saveOpensWindow : Obligations.SaveOpensWindow := by
  intro s imm8v fp hfp
  have inside : (s.moveWindow (-1#5)).status.cwp.toNat < (s.moveWindow (-1#5)).nwin :=
    State.inside_of_readReg (by decide) hfp
  refine ⟨fun notZero sp hsp => ?_, fun noException => ?_⟩
  · have cwp : s.status.cwp.toNat = (s.moveWindow (-1#5)).status.cwp.toNat + 1 := by
      rw [State.moveWindow_down_cwp]
      bv_omega
    have hoverlap : s.readReg 14#5 = (s.moveWindow (-1#5)).readReg 30#5 :=
      State.readReg_overlap (i := 30#5) (by decide) rfl cwp (State.inside_of_readReg (by decide) hsp)
    rw [hsp, hfp] at hoverlap
    cases hoverlap
    rfl
  · obtain ⟨j, hj, hlt, hu⟩ := State.writeReg_inside inside regSp (fp - imm8v.zeroExtend 32 * 4#32)
    refine ⟨_, (exec_save hfp hu).trans (if_neg (State.noException noException)), ?_, ?_, ?_, SameFileBut.of_set hj rfl, ⟨rfl, rfl, rfl⟩,
      ⟨fun _ => rfl, rfl⟩, ⟨⟨rfl, rfl, rfl⟩, rfl⟩, ⟨rfl, rfl, rfl, rfl, rfl⟩, rfl⟩
    · rw [← State.moveWindow_down_cwp]
      rfl
    · exact Eq.trans (State.readReg_set_other hj (by decide) rfl rfl) hfp
    · rw [← frameSize_eq]
      exact State.readReg_set hj hlt rfl rfl

/-- Moving the window leaves ISTATUS and the limits. -/
theorem SameControl.moveWindow (s : State) (d : BitVec 5) : SameControl s (s.moveWindow d) := ⟨rfl, rfl, rfl⟩

/-- Moving the window leaves memory. -/
theorem SameMemory.moveWindow (s : State) (d : BitVec 5) : SameMemory s (s.moveWindow d) := ⟨fun _ => rfl, rfl⟩

/-- Moving the window leaves everything outside the core. -/
theorem SameOutside.moveWindow (s : State) (d : BitVec 5) : SameOutside s (s.moveWindow d) := ⟨⟨rfl, rfl, rfl⟩, rfl⟩

/-- Settles O53: overflow is the entry of exception 2 in the window above, which it leaves again. -/
theorem restoreResult : Obligations.RestoreResult := by
  intro s
  refine ⟨fun noException => ?_, fun atLimit enabled below => ?_⟩
  · exact ⟨_, (exec_restore s).trans (if_neg (State.noException noException)), rfl, ⟨rfl, ⟨rfl, rfl, rfl⟩, ⟨fun _ => rfl, rfl⟩,
      ⟨⟨rfl, rfl, rfl⟩, rfl⟩⟩, ⟨rfl, rfl, rfl, rfl, rfl⟩, rfl⟩
  · have taken : exec .restore s = outcome ((s.moveWindow 1#5).exceptionEntry 2#6 s.nxt true) :=
      (exec_restore s).trans (if_pos ⟨atLimit, State.accepts_iff.2 ⟨enabled, below⟩⟩)
    have back : ((s.moveWindow 1#5).status.entered 2#6 true).cwp = s.status.cwp := BitVec.add_sub_cancel ..
    have aboveZero : s.status.cwp ≠ 31#5 → (s.moveWindow 1#5).status.cwp ≠ 0#5 := by
      rw [State.moveWindow_status]
      bv_omega
    rw [taken]
    refine ⟨fun top => ?_, fun notTop outside => ?_, fun notTop inside => ?_⟩
    · exact congrArg outcome (State.exceptionEntry_windowZero (by rw [State.moveWindow_status, top]; rfl) _ _)
    · exact congrArg outcome (State.exceptionEntry_outside (fun _ => aboveZero notTop) (back ▸ outside) _)
    · obtain ⟨entered, stops⟩ := State.exceptionEntry_entered (SameControl.moveWindow s 1#5) (SameMemory.moveWindow s 1#5)
        (SameOutside.moveWindow s 1#5) (n := 2#6) (dec := true) (fun _ => aboveZero notTop) (back ▸ inside) s.nxt
      refine ⟨fun h hh => ?_, fun stop hstop => by rw [stops stop hstop]⟩
      obtain ⟨t, ht, hentered⟩ := entered h hh
      rw [back] at hentered
      exact ⟨t, by rw [ht, outcome_ok], hentered⟩

/-! ## RDCTL and WRCTL -/

/-- The number of ISTATUS selects ISTATUS (R35). -/
theorem controlOf_istatus {m : ControlMap} (distinct : m.Distinct) : controlOf m m.istatus = some .istatus := by
  obtain ⟨h1, -, -⟩ := distinct
  simp [controlOf, h1]

/-- The number of WVALID selects WVALID (R36). -/
theorem controlOf_wvalid {m : ControlMap} (distinct : m.Distinct) : controlOf m m.wvalid = some .wvalid := by
  obtain ⟨-, h2, h3⟩ := distinct
  simp [controlOf, h2, h3]

/-- What RDCTL reads of a STATUS is the sum of its fields, each at its place (R33). -/
theorem Status.pack_eq (t : Status) (l : StatusLayout) :
    t.pack l = BitVec.ofNat 32 (2 ^ l.ie * t.ie.toNat + 2 ^ l.ipri * t.ipri.toNat + 2 ^ l.cwp * t.cwp.toNat
      + 2 ^ l.n * t.n.toNat + 2 ^ l.v * t.v.toNat + 2 ^ l.z * t.z.toNat + 2 ^ l.c * t.c.toNat) := by
  simp only [Status.pack, Nat.mul_comm (2 ^ _)]

/-- What RDCTL reads of the limits is their sum, each at its place (R36). -/
theorem packLimits_eq (hi lo : BitVec 5) (m : ControlMap) :
    packLimits hi lo m = BitVec.ofNat 32 (2 ^ m.hiLimit * hi.toNat + 2 ^ m.loLimit * lo.toNat) := by
  simp only [packLimits, Nat.mul_comm (2 ^ _)]

/-- RDCTL writes what the control register reads as, and nothing else (R239). -/
theorem exec_rdctl {s : State} {a : RegNum} {x v : Word} (readable : s.readReg a = .ok x) (control : s.readControl = .ok v) :
    ∃ t, exec (.rdctl a) s = .next t ∧ t.status = s.status ∧ WritesOnly s t a v := by
  obtain ⟨t, ht, hstatus, hwrites⟩ := State.retireReg_writesOnly readable v (f := keepFlags) fun _ => rfl
  refine ⟨t, ?_, hstatus, hwrites⟩
  simp only [exec, execRdctl, control, bind_ok, ht, outcome_ok]

/-- Settles O55: `K` selects the register read, whose fields `pack` places. -/
theorem readControlResult : Obligations.ReadControlResult := by
  rintro s a x l m readable rfl rfl distinct
  refine ⟨fun v hv => ?_, fun h0 h1 h2 => ?_⟩
  · simp only [List.mem_cons, Prod.mk.injEq, List.not_mem_nil, or_false] at hv
    apply exec_rdctl readable
    obtain ⟨hk, rfl⟩ | ⟨hk, rfl⟩ | ⟨hk, rfl⟩ := hv
    · simp only [State.readControl, controlOf_status.2 hk, Status.pack_eq]
    · simp only [State.readControl, hk, controlOf_istatus distinct, Status.pack_eq]
    · simp only [State.readControl, hk, controlOf_wvalid distinct, packLimits_eq]
  · simp only [exec, execRdctl, State.readControl, controlOf_none.2 ⟨h0, h1, h2⟩, bind_error, outcome_refusal]

/-- A bit at a place of a word is the parity of the word shifted down to it. -/
theorem getLsbD_eq_decide (x : Word) (n : Nat) : x.getLsbD n = decide (x.toNat / 2 ^ n % 2 = 1) :=
  Nat.testBit_eq_decide_div_mod_eq

/-- A field at a place of a word is the word shifted down to it, cut to the field's width. -/
theorem extractLsb'_eq_ofNat (x : Word) (n w : Nat) : x.extractLsb' n w = BitVec.ofNat w (x.toNat / 2 ^ n) := by
  rw [BitVec.extractLsb', Nat.shiftRight_eq_div_pow]

/-- The state after WRCTL has written `x` to control register `c` (R240). -/
def State.writeControl (s : State) (x : Word) : Control → State
  | .status => { s.retire with status := Status.unpack x s.platform.statusLayout, ctl0Hazard := true }
  | .istatus => { s.retire with istatus := Status.unpack x s.platform.statusLayout }
  | .wvalid => { s.retire with
      hiLimit := x.extractLsb' s.platform.controlMap.hiLimit 5
      loLimit := x.extractLsb' s.platform.controlMap.loLimit 5 }

/-- WRCTL writes the control register that `K` selects (R240). -/
theorem exec_wrctl {s : State} {a : RegNum} {x : Word} {c : Control} (hx : s.readReg a = .ok x)
    (hc : controlOf s.platform.controlMap s.k = some c) : exec (.wrctl a) s = .next (s.writeControl x c) := by
  simp only [exec, execWrctl, hx, hc, bind_ok]
  cases c <;> rfl

/-- WRCTL refuses a number that selects no control register (R37). -/
theorem exec_wrctl_refused {s : State} {a : RegNum} {x : Word} (hx : s.readReg a = .ok x)
    (hc : controlOf s.platform.controlMap s.k = none) : exec (.wrctl a) s = .refused .unknownControlRegister := by
  simp only [exec, execWrctl, hx, hc, bind_ok, outcome_refusal]

/-- Settles O56: `K` selects the register written, whose fields `unpack` reads from their places. -/
theorem writeControlResult : Obligations.WriteControlResult := by
  rintro s a x l m written readable rfl rfl distinct hwritten
  have hunpack : Status.unpack x s.platform.statusLayout = written := by
    simp only [hwritten, Status.unpack, getLsbD_eq_decide, extractLsb'_eq_ofNat]
  refine ⟨fun hk => ?_, fun hk => ?_, fun hk => ?_, fun h0 h1 h2 => ?_⟩
  · exact ⟨_, exec_wrctl readable (controlOf_status.2 hk), hunpack, ⟨rfl, ⟨rfl, rfl, rfl⟩, ⟨fun _ => rfl, rfl⟩,
      ⟨⟨rfl, rfl, rfl⟩, rfl⟩⟩, rfl, rfl, rfl, rfl, rfl, rfl⟩
  · exact ⟨_, exec_wrctl (c := .istatus) readable (hk ▸ controlOf_istatus distinct), hunpack, rfl, rfl, rfl, rfl, ⟨fun _ => rfl, rfl⟩,
      ⟨⟨rfl, rfl, rfl⟩, rfl⟩, ⟨rfl, rfl, rfl, rfl, rfl⟩, rfl⟩
  · exact ⟨_, exec_wrctl (c := .wvalid) readable (hk ▸ controlOf_wvalid distinct), extractLsb'_eq_ofNat ..,
      extractLsb'_eq_ofNat .., rfl, rfl, rfl, ⟨fun _ => rfl, rfl⟩, ⟨⟨rfl, rfl, rfl⟩, rfl⟩, ⟨rfl, rfl, rfl, rfl, rfl⟩, rfl⟩
  · exact exec_wrctl_refused readable (controlOf_none.2 ⟨h0, h1, h2⟩)

end Sys2Proof.Machine
end

section
/-! Words of memory (R63, R65), and the fetch of an instruction from a location that was stored to (R77). -/

namespace Sys2Proof.Machine

/-! ## Alignment and byte order -/

/-- An aligned address is already aligned. -/
theorem align32_align32 (x : Word) : align32 (align32 x) = align32 x := by
  apply BitVec.eq_of_toNat_eq
  simp only [align32_toNat]
  omega

/-- Settles O30: rounding down to a multiple of 4 leaves a multiple of 4. -/
theorem alignTruncatesToWord : Obligations.AlignTruncatesToWord := fun x =>
  ⟨rfl, align32_toNat x, align32_align32 x⟩

/-- The value of two parts set side by side: the upper one weighs by the width of the lower. -/
theorem toNat_append_eq_mul_add {m n : Nat} (x : BitVec m) (y : BitVec n) :
    (x ++ y).toNat = x.toNat * 2 ^ n + y.toNat := by
  rw [BitVec.toNat_append, ← Nat.shiftLeft_add_eq_or_of_lt y.isLt, Nat.shiftLeft_eq]

/-- The byte at the lowest address is the least significant of a word (R63). -/
theorem wordFrom_toNat (f : Nat → Byte) (a : Nat) :
    (wordFrom f a).toNat =
      (f a).toNat + 256 * (f (a + 1)).toNat + 65536 * (f (a + 2)).toNat + 16777216 * (f (a + 3)).toNat := by
  simp only [wordFrom, toNat_append_eq_mul_add]
  omega

/-- Settles O33: the weights are those of the four parts of the word. -/
theorem wordIsLittleEndian : Obligations.WordIsLittleEndian := fun _ f a => ⟨wordFrom_toNat f a, rfl⟩

/-! ## Fetch after store -/

/-- A byte was stored to too lately where the platform gives no FETCH_AHEAD that has passed since its last store (R77,
decision D23). -/
theorem State.storedTooLately_iff {s : State} {a : Nat} :
    s.storedTooLately a = true ↔
      ∃ c, Assoc.find a s.stores = some c ∧ ∀ d, s.platform.fetchAhead = some d → s.now - c ≤ d := by
  unfold State.storedTooLately
  cases Assoc.find a s.stores <;> cases s.platform.fetchAhead <;> simp

/-- A fetch with either byte stored to too lately faults (R77). -/
theorem State.fetchBytes_tooLately {s : State} {p : Port} {a : Nat} (hp : s.readPort s.fetchAddr = .ok p)
    (ha : a = s.fetchAddr ∨ a = s.fetchAddr + 1) (late : s.storedTooLately a = true) :
    s.fetchBytes = .error (.fault .fetchAfterStoreUnspecified) := by
  have either : (s.storedTooLately s.fetchAddr || s.storedTooLately (s.fetchAddr + 1)) = true := by
    obtain rfl | rfl := ha <;> simp [late]
  simp only [State.fetchBytes, hp, bind_ok, either, if_true]

/-- Settles O12: without FETCH_AHEAD every store is too late, with it those it has not passed. -/
theorem fetchAfterStore : Obligations.FetchAfterStore := by
  intro s p a at0 hp ha hstore
  refine ⟨fun noAhead => ?_, fun d ahead recent => ?_, fun d ahead passed => ⟨_, rfl, ?_⟩⟩
  · refine State.fetchBytes_tooLately hp ha (State.storedTooLately_iff.2 ⟨at0, hstore, fun d hd => ?_⟩)
    rw [noAhead] at hd
    cases hd
  · refine State.fetchBytes_tooLately hp ha (State.storedTooLately_iff.2 ⟨at0, hstore, fun e he => ?_⟩)
    rw [ahead] at he
    cases he
    exact recent
  · have early (b : Nat) (hb : b = s.fetchAddr ∨ b = s.fetchAddr + 1) : s.storedTooLately b = false := by
      rw [Bool.eq_false_iff, Ne, State.storedTooLately_iff]
      rintro ⟨c, hc, late⟩
      exact absurd (passed b c hb hc) (Nat.not_lt.2 (late d ahead))
    exact State.fetchBytes_ok.2 ⟨p, hp, early _ (.inl rfl), early _ (.inr rfl), rfl, rfl⟩

end Sys2Proof.Machine
end

section
/-! The words of the load instructions, and the two operations every load and every store is made of: what they leave where
memory or a device answers, and where the platform defines no such access. -/

namespace Sys2Proof

/-! ## Encodings -/

/-- The bits above the two lower parts of a word are those of the uppermost part. -/
theorem extract_upper {m j k start len : Nat} {h : BitVec m} {y : BitVec j} {x : BitVec k} (skip : k + j ≤ start) :
    (h ++ y ++ x).extractLsb' start len = h.extractLsb' (start - k - j) len := by
  rw [BitVec.extractLsb'_append_eq_of_le (by omega), BitVec.extractLsb'_append_eq_of_le (by omega)]

/-- The part in the middle of a word. -/
theorem extract_middle {m j k : Nat} {h : BitVec m} {y : BitVec j} {x : BitVec k} :
    (h ++ y ++ x).extractLsb' k j = y := by
  rw [BitVec.extractLsb'_append_eq_of_le (Nat.le_refl k), Nat.sub_self, BitVec.extractLsb'_append_eq_right]

/-- The word of LD (R216). -/
theorem decodeWord_ld (a b : RegNum) : decodeWord (0b010110#6 ++ b ++ a) = .ok (.ld a b) := by
  have top : field (0b010110#6 ++ b ++ a) 13 3 = 0b010#3 := extract_upper (by decide)
  have op6 : field (0b010110#6 ++ b ++ a) 10 5 = 0b10110#5 := extract_upper (by decide)
  have rb : field (0b010110#6 ++ b ++ a) 5 5 = b := extract_middle
  have ra : field (0b010110#6 ++ b ++ a) 0 5 = a := BitVec.extractLsb'_append_eq_right
  simp [decodeWord, decodeOp6, top, op6, rb, ra]

/-- The word of LDP (R218). -/
theorem decodeWord_ldp (a : RegNum) (p : BitVec 2) (imm5 : BitVec 5) :
    decodeWord (0b1011#4 ++ p ++ imm5 ++ a) = .ok (.ldp a p imm5) := by
  have above {start len : Nat} (h : 5 ≤ start) : field (0b1011#4 ++ p ++ imm5 ++ a) start len =
      (0b1011#4 ++ p ++ imm5).extractLsb' (start - 5) len := BitVec.extractLsb'_append_eq_of_le h
  have top : field (0b1011#4 ++ p ++ imm5 ++ a) 13 3 = 0b101#3 := (above (by decide)).trans (extract_upper (by decide))
  have op4 : field (0b1011#4 ++ p ++ imm5 ++ a) 12 1 = 0b1#1 := (above (by decide)).trans (extract_upper (by decide))
  have rp : field (0b1011#4 ++ p ++ imm5 ++ a) 10 2 = p := (above (by decide)).trans extract_middle
  have imm : field (0b1011#4 ++ p ++ imm5 ++ a) 5 5 = imm5 := extract_middle
  have ra : field (0b1011#4 ++ p ++ imm5 ++ a) 0 5 = a := BitVec.extractLsb'_append_eq_right
  simp [decodeWord, decodeOp4, top, op4, rp, imm, ra]

/-- The word of LDS (R220). -/
theorem decodeWord_lds (a : RegNum) (imm8 : BitVec 8) : decodeWord (0b111#3 ++ imm8 ++ a) = .ok (.lds a imm8) := by
  have top : field (0b111#3 ++ imm8 ++ a) 13 3 = 0b111#3 := extract_upper (by decide)
  have imm : field (0b111#3 ++ imm8 ++ a) 5 8 = imm8 := extract_middle
  have ra : field (0b111#3 ++ imm8 ++ a) 0 5 = a := BitVec.extractLsb'_append_eq_right
  simp [decodeWord, top, imm, ra]

end Sys2Proof

namespace Sys2Proof.Machine

/-! ## Accesses the platform does not define -/

/-- A read of a word with nothing mapped is stuck (R71). -/
theorem State.readPort_unmapped {s : State} {a : Nat} (h : s.kindAt a = none) :
    s.readPort a = .error (.fault .unmappedAddress) := by
  rw [State.readPort, h]

/-- A read of a device that defines none is stuck (decision D24). -/
theorem State.readPort_undefined {s : State} {a : Nat} {w : Bool} (h : s.kindAt a = some (.device false w)) :
    s.readPort a = .error (.fault .deviceAccessUndefined) := by
  simp [State.readPort, h]

/-- A write of a word with nothing mapped is stuck (R71). -/
theorem State.writePort_unmapped {s : State} {a : Nat} (h : s.kindAt a = none) :
    s.writePort a = .error (.fault .unmappedAddress) := by
  rw [State.writePort, h]

/-- A write of a word of ROM is stuck (decision D24). -/
theorem State.writePort_rom {s : State} {a : Nat} (h : s.kindAt a = some .rom) :
    s.writePort a = .error (.fault .storeToRom) := by
  rw [State.writePort, h]

/-- A write of a device that defines none is stuck (decision D24). -/
theorem State.writePort_undefined {s : State} {a : Nat} {d : Bool} (h : s.kindAt a = some (.device d false)) :
    s.writePort a = .error (.fault .deviceAccessUndefined) := by
  simp [State.writePort, h]

/-- With no interrupt taken, a fetch the platform does not answer stops the step. -/
theorem step_of_fetch_stop {s : State} {stop : Stop} (quiet : s.interruptTaken = none)
    (h : s.readPort s.fetchAddr = .error stop) : step s = outcome (.error stop) := by
  have hbegin : s.begin.readPort s.begin.fetchAddr = .error stop := h
  simp only [step, stepCore, quiet, State.runInstruction, State.fetchDecode, State.fetchBytes, hbegin, bind_error]

/-! ## Loads -/

/-- The pointer registers are `%r16` to `%r19` (R27). -/
theorem regPointer_eq (p : BitVec 2) : regPointer p = BitVec.ofNat 5 (16 + p.toNat) := by
  revert p
  decide

/-- The stack offset of LDS and STS is four times the immediate (R220). -/
theorem stackWordAddr_eq (sp : Word) (imm8 : BitVec 8) : stackWordAddr sp imm8 = sp + BitVec.ofNat 32 (4 * imm8.toNat) := by
  rw [stackWordAddr, frameSize_eq]

/-- What every load does with its effective address `x`: the word there into `%r a`, and the end of the instruction. -/
def State.loadTo (s : State) (a : RegNum) (x : Word) : Except Stop State :=
  s.loadWord x >>= fun r => r.after.retireReg a r.value keepFlags

/-- LD loads from its base and K (R216). -/
theorem exec_ld {s : State} {b : RegNum} {base : Word} (hb : s.readReg b = .ok base) (a : RegNum) :
    exec (.ld a b) s = outcome (s.loadTo a (base + s.offsetK)) := by
  simp only [exec, execLd, hb, bind_ok, State.loadTo]

/-- LDP loads from its pointer register, K and the immediate (R218). -/
theorem exec_ldp {s : State} {p : BitVec 2} {ptr : Word} (hp : s.readReg (BitVec.ofNat 5 (16 + p.toNat)) = .ok ptr)
    (a : RegNum) (imm5 : BitVec 5) : exec (.ldp a p imm5) s = outcome (s.loadTo a (ptr + s.offsetKImm imm5)) := by
  simp only [exec, execLdp, regPointer_eq, hp, bind_ok, State.loadTo]

/-- LDS loads from the stack (R220). -/
theorem exec_lds {s : State} {sp : Word} (hsp : s.readReg 14#5 = .ok sp) (a : RegNum) (imm8 : BitVec 8) :
    exec (.lds a imm8) s = outcome (s.loadTo a (sp + BitVec.ofNat 32 (4 * imm8.toNat))) := by
  simp only [exec, execLds, regSp, hsp, bind_ok, State.loadTo, stackWordAddr_eq]

/-- A word read of a device: its answer, and the access seen (R68, R69). -/
theorem State.loadWord_device {s : State} {x : Word} {w : Bool} (h : s.kindAt (s.wordAddr x) = some (.device true w)) :
    s.loadWord x = .ok
      { value := wordFrom (Config.deviceByte (s.accessed .device (s.wordAddr x) 4 none).bus) (s.wordAddr x)
        after := s.accessed .device (s.wordAddr x) 4 none } :=
  State.loadWord_ok.2 ⟨.device, State.readPort_device.2 ⟨w, h⟩, rfl, rfl⟩

section Load

variable {i : Instr} {s : State} {a : RegNum} {x v : Word} (load : exec i s = outcome (s.loadTo a x))

include load

/-- A load of a word of memory writes it to the register, and nothing else. -/
theorem load_memory (readable : s.readReg a = .ok v) (h : s.Readable (s.wordAddr x)) :
    ∃ t, exec i s = .next t ∧ t.status = s.status ∧ WritesOnly s t a (s.wordAt (s.wordAddr x)) := by
  obtain ⟨t, ht, hresult⟩ :=
    State.retireReg_writesOnly readable (s.wordAt (s.wordAddr x)) (f := keepFlags) fun _ => rfl
  refine ⟨t, ?_, hresult⟩
  rw [load, State.loadTo, State.loadWord_memory h, bind_ok, ht, outcome_ok]

/-- A load of a device is one access of it, and writes its answer to the register (R68, R69). -/
theorem load_device (readable : s.readReg a = .ok v) {w : Bool} (h : s.kindAt (s.wordAddr x) = some (.device true w)) :
    ∃ t, exec i s = .next t ∧ ReadsDevice s t a (s.wordAddr x) := by
  obtain ⟨j, hj, hlt, -⟩ := State.writeReg_of_readReg readable v
  refine ⟨_, load.trans (outcome_eq_next.2 (bind_eq_ok.2 ⟨_, State.loadWord_device h,
    State.retireReg_ok.2 ⟨j, hj, hlt, rfl⟩⟩)), ?_⟩
  exact ⟨State.readReg_set hj hlt rfl rfl, rfl, SameFileBut.of_set hj rfl, rfl, ⟨rfl, rfl, rfl⟩, ⟨fun _ => rfl, rfl⟩,
    ⟨rfl, rfl, rfl⟩, ⟨rfl, rfl, rfl, rfl, rfl⟩, rfl⟩

/-- A load of a word the platform does not let the core read stops. -/
theorem load_stops {stop : Stop} (h : s.readPort (s.wordAddr x) = .error stop) : exec i s = outcome (.error stop) := by
  rw [load, State.loadTo, State.loadWord, h, bind_error, bind_error]

/-- A load of an unmapped word, or of a device that defines no read, faults. -/
theorem load_undefined :
    (s.kindAt (s.wordAddr x) = none → exec i s = .fault .unmappedAddress) ∧
      ∀ w, s.kindAt (s.wordAddr x) = some (.device false w) → exec i s = .fault .deviceAccessUndefined :=
  ⟨fun h => load_stops load (State.readPort_unmapped h), fun _ h => load_stops load (State.readPort_undefined h)⟩

end Load

/-- Settles O32: each of the three forms loads from its effective address. -/
theorem loadResult : Obligations.LoadResult := by
  intro s a b p imm5 imm8 x base w
  refine ⟨decodeWord_ld a b, decodeWord_ldp a p imm5, decodeWord_lds a imm8, fun readable hw => ⟨?_, ?_, ?_⟩⟩
  · rintro hbase rfl
    exact load_memory (exec_ld hbase a) readable hw
  · rintro hbase rfl
    exact load_memory (exec_ldp hbase a imm5) readable hw
  · rintro hbase rfl
    exact load_memory (exec_lds hbase a imm8) readable hw

/-! ## Stores -/

/-- What every store does with its effective address `x`: the bytes `vs` from lane `first` of the word there on, and the end
of the instruction. -/
def State.storeTo (s : State) (x : Word) (first : Nat) (vs : List Byte) : Except Stop State :=
  s.storeBytes (s.wordAddr x + first) vs >>= fun t => pure t.retire

/-- The bytes `vs` are lanes `first` to `first + count - 1` of `v`. -/
structure LanesOf (v : Word) (first count : Nat) (vs : List Byte) : Prop where
  inWord : first < 4
  length : vs.length = count
  lane : ∀ k, k < count → vs[k]? = some (BitVec.ofNat 8 (v.toNat / 256 ^ (first + k)))

/-- `i` stores lanes `first` to `first + count - 1` of `v` to the word at `x`. -/
def Stores (i : Instr) (s : State) (x : Word) (first count : Nat) (v : Word) : Prop :=
  ∃ vs, LanesOf v first count vs ∧ exec i s = outcome (s.storeTo x first vs)

/-- Byte lane `n` holds the bits of weight `256 ^ n` and up (R6). -/
theorem byteLane_eq (n : BitVec 2) (v : Word) : byteLane n v = BitVec.ofNat 8 (v.toNat / 256 ^ n.toNat) := by
  rw [byteLane, extractLsb'_eq_ofNat, Nat.pow_mul]

/-- A byte store stores its lane. -/
theorem LanesOf.byte (n : BitVec 2) (v : Word) : LanesOf v n.toNat 1 [byteLane n v] := by
  refine ⟨n.isLt, rfl, fun k hk => ?_⟩
  obtain rfl := Nat.lt_one_iff.1 hk
  rw [byteLane_eq]
  rfl

/-- A full-word store stores the four lanes. -/
theorem LanesOf.word (v : Word) : LanesOf v 0 4 (wordBytes v) := by
  refine ⟨by decide, rfl, fun k hk => ?_⟩
  interval_cases k <;> simp [wordBytes, byteLane_eq]

/-- The two bytes of a half-word lane are two byte lanes of the word (R63). -/
theorem halfLane_byte (n : BitVec 1) (v : Word) {k : Nat} (hk : k < 2) :
    (halfLane n v).extractLsb' (8 * k) 8 = BitVec.ofNat 8 (v.toNat / 256 ^ (2 * n.toNat + k)) := by
  have hpow : 256 ^ (2 * n.toNat + k) = 2 ^ (16 * n.toNat) * 256 ^ k := by
    rw [Nat.pow_add, Nat.pow_mul, Nat.pow_mul]
  apply BitVec.eq_of_toNat_eq
  rw [hpow, ← Nat.div_div_eq_div_mul, halfLane, extractLsb'_eq_ofNat]
  simp only [BitVec.extractLsb'_toNat, BitVec.toNat_ofNat, Nat.shiftRight_eq_div_pow]
  interval_cases k <;> omega

/-- A half-word store stores the two lanes of its half. -/
theorem LanesOf.half (n : BitVec 1) (v : Word) : LanesOf v (2 * n.toNat) 2 (halfBytes (halfLane n v)) := by
  refine ⟨by omega, rfl, fun k hk => ?_⟩
  rw [← halfLane_byte n v hk]
  interval_cases k <;> rfl

/-! ### The nine forms -/

/-- An instruction that ends with a full-word store. -/
theorem Stores.word {i : Instr} {s : State} {x v : Word}
    (h : exec i s = outcome (s.storeWord x v >>= fun t => pure t.retire)) : Stores i s x 0 4 v :=
  ⟨_, LanesOf.word v, h⟩

/-- An instruction that ends with a byte store. -/
theorem Stores.byte {i : Instr} {s : State} {x v : Word} {n : BitVec 2}
    (h : exec i s = outcome (s.storeByteLane x n v >>= fun t => pure t.retire)) : Stores i s x n.toNat 1 v :=
  ⟨_, LanesOf.byte n v, h⟩

/-- An instruction that ends with a half-word store. -/
theorem Stores.half {i : Instr} {s : State} {x v : Word} {n : BitVec 1}
    (h : exec i s = outcome (s.storeHalfLane x n v >>= fun t => pure t.retire)) : Stores i s x (2 * n.toNat) 2 v :=
  ⟨_, LanesOf.half n v, h⟩

section Forms

variable {s : State} {a b : RegNum} {v z base sp : Word}

/-- ST stores a word at its base and K (R217). -/
theorem stores_st (hb : s.readReg b = .ok base) (ha : s.readReg a = .ok v) :
    Stores (.st a b) s (base + s.offsetK) 0 4 v :=
  .word (by simp only [exec, execSt, hb, ha, bind_ok])

/-- STP stores a word at its pointer register, K and the immediate (R219). -/
theorem stores_stp {p : BitVec 2} {ptr : Word} (hp : s.readReg (BitVec.ofNat 5 (16 + p.toNat)) = .ok ptr)
    (ha : s.readReg a = .ok v) (imm5 : BitVec 5) : Stores (.stp a p imm5) s (ptr + s.offsetKImm imm5) 0 4 v :=
  .word (by simp only [exec, execStp, regPointer_eq, hp, ha, bind_ok])

/-- STS stores a word in the stack (R221). -/
theorem stores_sts (hsp : s.readReg 14#5 = .ok sp) (ha : s.readReg a = .ok v) (imm8 : BitVec 8) :
    Stores (.sts a imm8) s (sp + BitVec.ofNat 32 (4 * imm8.toNat)) 0 4 v :=
  .word (by simp only [exec, execSts, regSp, hsp, ha, bind_ok, stackWordAddr_eq])

/-- ST8D stores the byte lane its address selects (R223). -/
theorem stores_st8d (hb : s.readReg b = .ok base) (hz : s.readReg 0#5 = .ok z) :
    Stores (.st8d b) s (base + s.offsetK) (base.toNat % 4) 1 z := by
  have lane : (laneOf base).toNat = base.toNat % 4 := by simp [laneOf]
  rw [← lane]
  exact .byte (by simp only [exec, execSt8d, regZero, hb, hz, bind_ok])

/-- ST8S stores the byte lane its immediate selects (R224). -/
theorem stores_st8s (hb : s.readReg b = .ok base) (hz : s.readReg 0#5 = .ok z) (imm2u : BitVec 2) :
    Stores (.st8s b imm2u) s (base + s.offsetK) imm2u.toNat 1 z :=
  .byte (by simp only [exec, execSt8s, regZero, hb, hz, bind_ok])

/-- ST16D stores the half-word lane its address selects (R225). -/
theorem stores_st16d (hb : s.readReg b = .ok base) (hz : s.readReg 0#5 = .ok z) :
    Stores (.st16d b) s (base + s.offsetK) (2 * (base.toNat / 2 % 2)) 2 z := by
  have lane : (halfLaneOf base).toNat = base.toNat / 2 % 2 := by simp [halfLaneOf, Nat.shiftRight_eq_div_pow]
  rw [← lane]
  exact .half (by simp only [exec, execSt16d, regZero, hb, hz, bind_ok])

/-- ST16S stores the half-word lane its immediate selects (R226). -/
theorem stores_st16s (hb : s.readReg b = .ok base) (hz : s.readReg 0#5 = .ok z) (imm1u : BitVec 1) :
    Stores (.st16s b imm1u) s (base + s.offsetK) (2 * imm1u.toNat) 2 z :=
  .half (by simp only [exec, execSt16s, regZero, hb, hz, bind_ok])

/-- STS8S stores the byte lane its immediate selects, in the stack (R227). -/
theorem stores_sts8s (hsp : s.readReg 14#5 = .ok sp) (hz : s.readReg 0#5 = .ok z) (imm10 : BitVec 10) :
    Stores (.sts8s imm10) s (sp + BitVec.ofNat 32 imm10.toNat) (imm10.toNat % 4) 1 z := by
  have lane : (imm10.extractLsb' 0 2).toNat = imm10.toNat % 4 := by simp
  have addr : stackByteAddr sp imm10 = sp + BitVec.ofNat 32 imm10.toNat := by rw [stackByteAddr, BitVec.ofNat_toNat]
  rw [← lane, ← addr]
  exact .byte (by simp only [exec, execSts8s, regZero, regSp, hsp, hz, bind_ok])

/-- STS16S stores the half-word lane its immediate selects, in the stack (R228). -/
theorem stores_sts16s (hsp : s.readReg 14#5 = .ok sp) (hz : s.readReg 0#5 = .ok z) (imm9 : BitVec 9) :
    Stores (.sts16s imm9) s (sp + BitVec.ofNat 32 (2 * imm9.toNat)) (2 * (imm9.toNat % 2)) 2 z := by
  have lane : (imm9.extractLsb' 0 1).toNat = imm9.toNat % 2 := by simp
  have addr : stackHalfAddr sp imm9 = sp + BitVec.ofNat 32 (2 * imm9.toNat) := by
    have offset : imm9.zeroExtend 32 * 2#32 = BitVec.ofNat 32 (2 * imm9.toNat) := by bv_omega
    rw [stackHalfAddr, offset]
  rw [← lane, ← addr]
  exact .half (by simp only [exec, execSts16s, regZero, regSp, hsp, hz, bind_ok])

end Forms

section Store

variable {i : Instr} {s : State} {x v : Word} {first count : Nat} (store : Stores i s x first count v)

include store

/-- A store to a device is one access of it, which shows it the lanes (R68, R69). -/
theorem store_device {d : Bool} (h : s.kindAt (s.wordAddr x) = some (.device d true)) :
    ∃ t, exec i s = .next t ∧ WritesDevice s t (s.wordAddr x) first count v := by
  obtain ⟨vs, ⟨inWord, rfl, lane⟩, hexec⟩ := store
  have port : s.writePort (s.wordAddr x + first) = .ok .device :=
    State.writePort_device.2 ⟨d, (s.kindAt_lane x inWord).trans h⟩
  refine ⟨_, hexec.trans (outcome_eq_next.2 (bind_eq_ok.2 ⟨_, State.storeBytes_ok.2 ⟨_, port, rfl⟩, rfl⟩)), ?_⟩
  refine ⟨⟨vs, rfl, rfl, lane⟩, fun _ => rfl, fun k lower upper => ?_, fun y hy => ?_, rfl, rfl, ⟨rfl, rfl, rfl⟩,
    ⟨rfl, rfl, rfl⟩, ⟨rfl, rfl, rfl, rfl, rfl⟩, rfl⟩
  · obtain ⟨m, rfl⟩ := Nat.exists_eq_add_of_le lower
    rw [← Nat.add_assoc]
    exact logStores_inside _ _ _ _ _ (by omega)
  · exact logStores_outside _ _ _ _ _ hy

/-- A store to a word the platform does not let the core write stops. -/
theorem store_stops {stop : Stop} (h : s.writePort (s.wordAddr x) = .error stop) : exec i s = outcome (.error stop) := by
  obtain ⟨vs, ⟨inWord, -, -⟩, hexec⟩ := store
  have port : s.writePort (s.wordAddr x + first) = .error stop := by
    rw [← h, State.writePort, State.writePort, State.kindAt_lane s x inWord]
  rw [hexec, State.storeTo, State.storeBytes, port, bind_error, bind_error]

/-- A store to an unmapped word, to ROM, or to a device that defines no write, faults. -/
theorem store_undefined :
    (s.kindAt (s.wordAddr x) = none → exec i s = .fault .unmappedAddress) ∧
      (s.kindAt (s.wordAddr x) = some .rom → exec i s = .fault .storeToRom) ∧
      ∀ d, s.kindAt (s.wordAddr x) = some (.device d false) → exec i s = .fault .deviceAccessUndefined :=
  ⟨fun h => store_stops store (State.writePort_unmapped h), fun h => store_stops store (State.writePort_rom h),
    fun _ h => store_stops store (State.writePort_undefined h)⟩

end Store

/-! ## The twelve forms together -/

/-- Settles O38: the fetch, each load and each store meets the stop of its port. -/
theorem undefinedAccessesStop : Obligations.UndefinedAccessesStop := by
  intro s a b p imm1u imm2u imm5 imm8 imm9 imm10 z v base ptr sp
  refine ⟨fun stop => step_of_fetch_stop, fun hz ha hb hp hsp => ?_⟩
  simp only [List.forall_mem_cons]
  refine ⟨⟨?_, ?_, ?_, List.forall_mem_nil _⟩, ?_, ?_, ?_, ?_, ?_, ?_, ?_, ?_, ?_, List.forall_mem_nil _⟩
  · exact load_undefined (exec_ld hb a)
  · exact load_undefined (exec_ldp hp a imm5)
  · exact load_undefined (exec_lds hsp a imm8)
  · exact store_undefined (stores_st hb ha)
  · exact store_undefined (stores_stp hp ha imm5)
  · exact store_undefined (stores_sts hsp ha imm8)
  · exact store_undefined (stores_st8d hb hz)
  · exact store_undefined (stores_st8s hb hz imm2u)
  · exact store_undefined (stores_st16d hb hz)
  · exact store_undefined (stores_st16s hb hz imm1u)
  · exact store_undefined (stores_sts8s hsp hz imm10)
  · exact store_undefined (stores_sts16s hsp hz imm9)

/-- Settles O39: each load is one read of the device, each store one write of its lanes. -/
theorem deviceAccessResult : Obligations.DeviceAccessResult := by
  intro s a b p imm1u imm2u imm5 imm8 imm9 imm10 z v base ptr sp hz ha hb hp hsp
  simp only [List.forall_mem_cons]
  refine ⟨⟨?_, ?_, ?_, List.forall_mem_nil _⟩, ?_, ?_, ?_, ?_, ?_, ?_, ?_, ?_, ?_, List.forall_mem_nil _⟩
  · exact fun _ => load_device (exec_ld hb a) ha
  · exact fun _ => load_device (exec_ldp hp a imm5) ha
  · exact fun _ => load_device (exec_lds hsp a imm8) ha
  · exact fun _ => store_device (stores_st hb ha)
  · exact fun _ => store_device (stores_stp hp ha imm5)
  · exact fun _ => store_device (stores_sts hsp ha imm8)
  · exact fun _ => store_device (stores_st8d hb hz)
  · exact fun _ => store_device (stores_st8s hb hz imm2u)
  · exact fun _ => store_device (stores_st16d hb hz)
  · exact fun _ => store_device (stores_st16s hb hz imm1u)
  · exact fun _ => store_device (stores_sts8s hsp hz imm10)
  · exact fun _ => store_device (stores_sts16s hsp hz imm9)

end Sys2Proof.Machine
end

section
/-! Which instructions change memory, and which make an access a device can see (R67). -/

namespace Sys2Proof.Machine

/-- Where the computation answers, memory and the bus are as they were. -/
def LeavesMemory (s : State) (m : Except Stop State) : Prop := ∀ t, m = .ok t → SameMemory s t ∧ t.bus = s.bus

/-- An operation before the last leaves memory and the bus if what follows does. -/
theorem LeavesMemory.bind {α : Type} {s : State} {m : Except Stop α} {f : α → Except Stop State}
    (h : ∀ x, LeavesMemory s (f x)) : LeavesMemory s (m >>= f) := by
  intro t ht
  obtain ⟨x, -, hx⟩ := bind_eq_ok.1 ht
  exact h x t hx

/-- Writing a register leaves memory and the bus. -/
theorem LeavesMemory.retireReg {s : State} {r : RegNum} {v : Word} {f : Status → Status} :
    LeavesMemory s (s.retireReg r v f) := by
  intro t ht
  obtain ⟨j, -, -, rfl⟩ := State.retireReg_ok.1 ht
  exact ⟨⟨fun _ => rfl, rfl⟩, rfl⟩

/-- Writing the flags leaves memory and the bus. -/
theorem LeavesMemory.flags {s : State} {f : Status → Status} : LeavesMemory s (.ok (s.mapStatus f).retire) := by
  rintro t ⟨⟩
  exact ⟨⟨fun _ => rfl, rfl⟩, rfl⟩

/-- WRCTL leaves memory and the bus (R240). -/
theorem exec_wrctl_leavesMemory {a : RegNum} {s t : State} (h : exec (.wrctl a) s = .next t) :
    SameMemory s t ∧ t.bus = s.bus := by
  obtain ⟨x, hx, -⟩ := next_of_bind h
  cases hc : controlOf s.platform.controlMap s.k with
  | none => rw [exec_wrctl_refused hx hc] at h; cases h
  | some c =>
    rw [exec_wrctl hx hc] at h
    cases h
    cases c <;> exact ⟨⟨fun _ => rfl, rfl⟩, rfl⟩

/-- Loading stores nothing. -/
theorem State.loadTo_sameMemory {s t : State} {a : RegNum} {x : Word} (h : s.loadTo a x = .ok t) : SameMemory s t := by
  obtain ⟨r, hr, h⟩ := bind_eq_ok.1 h
  obtain ⟨p, -, hafter, -⟩ := State.loadWord_ok.1 hr
  obtain ⟨-, -, -, hmem, hstores, -⟩ := State.retireReg_next h
  refine ⟨fun y => ?_, by simpa [hafter] using hstores⟩
  rw [State.byteAt, State.byteAt, hmem, hafter, State.accessed_mem]

/-- Entering an exception stores nothing (R262), from a state `u` in which nothing had been stored since `s`. -/
theorem State.exceptionEntry_sameMemory {s u t : State} {n : BitVec 6} {ret : Word} {dec : Bool} (memory : SameMemory s u)
    (h : u.exceptionEntry n ret dec = .ok t) : SameMemory s t := by
  obtain ⟨j, r, -, -, rfl⟩ := State.exceptionEntry_next h
  exact ⟨memory.bytes, memory.stores⟩

/-- SAVE stores nothing, underflow or not (R236). -/
theorem exec_save_sameMemory {imm8v : BitVec 8} {s t : State} (h : exec (.save imm8v) s = .next t) : SameMemory s t := by
  obtain ⟨fp, hfp, framed⟩ := next_of_bind h
  obtain ⟨u, hu, -⟩ := bind_eq_ok.1 framed
  rw [exec_save hfp hu] at h
  have memory : SameMemory s u := by
    obtain ⟨j, -, -, rfl⟩ := State.writeReg_ok.1 hu
    exact ⟨fun _ => rfl, rfl⟩
  split at h
  · exact State.exceptionEntry_sameMemory memory (outcome_eq_next.1 h)
  · cases h
    exact ⟨memory.bytes, memory.stores⟩

/-- RESTORE stores nothing, overflow or not (R238). -/
theorem exec_restore_sameMemory {s t : State} (h : exec .restore s = .next t) : SameMemory s t := by
  rw [exec_restore] at h
  split at h
  · exact State.exceptionEntry_sameMemory (SameMemory.moveWindow s 1#5) (outcome_eq_next.1 h)
  · cases h
    exact ⟨fun _ => rfl, rfl⟩

/-- Control transfers, skips and PFX, all but TRAP, leave memory and the bus. -/
theorem Effect.leavesMemory {i : Instr} {s t : State} (e : Effect i s t) (forbidden : forbiddenInSlot i = true)
    (notTrap : ∀ n, i ≠ .trap n) : SameMemory s t ∧ t.bus = s.bus := by
  have allowed {p : Prop} (slot : forbiddenInSlot i = false) : p := by rw [forbidden] at slot; cases slot
  cases e with
  | skips | setsK | returns => exact ⟨⟨fun _ => rfl, rfl⟩, rfl⟩
  | transfers u _ _ _ _ link =>
    obtain rfl | link := link
    · exact ⟨⟨fun _ => rfl, rfl⟩, rfl⟩
    · obtain ⟨j, -, -, rfl⟩ := State.writeReg_ok.1 link
      exact ⟨⟨fun _ => rfl, rfl⟩, rfl⟩
  | traps n is => exact absurd is (notTrap n)
  | writesReg _ _ _ _ _ slot | compares _ slot | stores _ _ _ slot => exact allowed slot
  | opensWindow _ _ _ is | closesWindow is | writesStatus _ _ is | writesControl _ _ _ _ is => exact allowed (is ▸ rfl)

/-- Settles O40: an instruction of neither list writes a register, the flags or control state alone, or redirects control;
one that only loads or enters an exception stores nothing. -/
theorem onlyStoresChangeMemory : Obligations.OnlyStoresChangeMemory := by
  intro i s t h
  have both {p q : Prop} (leaves : SameMemory s t ∧ t.bus = s.bus) : (p → SameMemory s t) ∧ (q → t.bus = s.bus) :=
    leaves.imp (fun memory _ => memory) (fun bus _ => bus)
  have ends {m : Except Stop State} (h : outcome m = .next t) : m = .ok t := outcome_eq_next.1 h
  cases i with
  | movi | bgen => exact both (LeavesMemory.retireReg t (ends h))
  | addi | subi | neg | abs | not | lsli | lsri | asri | rlc | rrc | mov | movhi | ext8s | ext16s | sext8 | sext16 | swap
  | fill8 | fill16 | rdctl => exact both (LeavesMemory.bind (fun _ => .retireReg) t (ends h))
  | add | sub | mstep | mul | ext8d | ext16d | and | andn | or | xor | lsl | lsr | asr =>
    exact both (LeavesMemory.bind (fun _ => .bind fun _ => .retireReg) t (ends h))
  | usr0 | usr1 | usr2 | usr3 | usr4 =>
    exact both (LeavesMemory.bind (fun _ => .bind fun _ => .bind fun _ => .retireReg) t (ends h))
  | cmp => exact both (LeavesMemory.bind (fun _ => .bind fun _ => .flags) t (ends h))
  | cmpi => exact both (LeavesMemory.bind (fun _ => .flags) t (ends h))
  | wrctl => exact both (exec_wrctl_leavesMemory h)
  | skp0 | skp1 | skprz | skprnz | skps | br | bsr | jmp | call | pfx | tret =>
    exact both ((exec_effect h).leavesMemory rfl nofun)
  | ld | ldp | lds =>
    obtain ⟨base, -, load⟩ := next_of_bind h
    exact ⟨fun _ => State.loadTo_sameMemory load, fun unlisted => absurd (by simp [Instr.mnemonic]) unlisted⟩
  | trap =>
    exact ⟨fun _ => State.exceptionEntry_sameMemory (SameMemory.refl s) (ends h),
      fun unlisted => absurd (by simp [Instr.mnemonic]) unlisted⟩
  | save => exact ⟨fun _ => exec_save_sameMemory h, fun unlisted => absurd (by simp [Instr.mnemonic]) unlisted⟩
  | restore => exact ⟨fun _ => exec_restore_sameMemory h, fun unlisted => absurd (by simp [Instr.mnemonic]) unlisted⟩
  | st | stp | sts | st8d | st8s | sts8s | st16d | st16s | sts16s =>
    exact ⟨fun unlisted => absurd (by simp [Instr.mnemonic]) unlisted,
      fun unlisted => absurd (by simp [Instr.mnemonic]) unlisted⟩
  | unused011101010 | unused011101011 | unlisted011101110 | unlisted011101111 | unlisted01111010 | unlisted01111011
  | unused01111100111 | unused01111101111 | unused01111111011 | unused01111111100 | unused01111111101 | unlisted10010 => cases h

end Sys2Proof.Machine
end

section
/-! The decoder and the encoder (R92 to R103): each undoes the other, and the rows of the opcode map part the words between
them. -/

namespace Sys2Proof

/-! ## Decoding an encoded instruction -/

/-- Settles O1, opcode space by opcode space (R100): the opcode in front selects the decoder, and each field of the
word is the part `encode` put there. `Nat.reduceAdd` would rewrite the width of a word out of the shape the lemmas on `++`
are stated in. -/
theorem decodeInvertsEncode : Obligations.DecodeInvertsEncode := by
  intro i
  cases i with
  | lds | sts =>
    simp (disch := decide) [-Nat.reduceAdd, encode, decodeWord, field, BitVec.extractLsb'_append_eq_of_le,
      BitVec.extractLsb'_append_eq_of_add_le]
  | stp | ldp =>
    simp (disch := decide) [-Nat.reduceAdd, encode, decodeWord, decodeOp4, field, BitVec.extractLsb'_append_eq_of_le,
      BitVec.extractLsb'_append_eq_of_add_le]
  | br | bsr | pfx | unlisted10010 =>
    simp (disch := decide) [-Nat.reduceAdd, encode, decodeWord, decodeOp5, field, BitVec.extractLsb'_append_eq_of_le,
      BitVec.extractLsb'_append_eq_of_add_le]
  | add | addi | sub | subi | cmp | cmpi | lsl | lsli | lsr | lsri | asr | asri | mov | movi | and | andn | or | xor | bgen
  | ext8d | skp0 | skp1 | ld | st | sts8s | sts16s | ext16d | movhi | usr0 =>
    simp (disch := decide) [-Nat.reduceAdd, encode, decodeWord, decodeOp6, field, BitVec.extractLsb'_append_eq_of_le,
      BitVec.extractLsb'_append_eq_of_add_le]
  | ext8s | ext16s | st8s | st16s | unused011101010 | unused011101011 | unlisted011101110 | unlisted011101111 =>
    simp (disch := decide) [-Nat.reduceAdd, encode, decodeWord, decodeOp6, decodeOp3u, field,
      BitVec.extractLsb'_append_eq_of_le, BitVec.extractLsb'_append_eq_of_add_le]
  | save | trap | unlisted01111010 | unlisted01111011 =>
    simp (disch := decide) [-Nat.reduceAdd, encode, decodeWord, decodeOp6, decodeOp2v, field,
      BitVec.extractLsb'_append_eq_of_le, BitVec.extractLsb'_append_eq_of_add_le]
  | restore => rfl
  | _ =>
    simp (disch := decide) [-Nat.reduceAdd, encode, decodeWord, decodeOp6, decodeOp5w, field,
      BitVec.extractLsb'_append_eq_of_le, BitVec.extractLsb'_append_eq_of_add_le]

/-! ## Words from their fields -/

/-- Two neighbouring fields of a word are one field. -/
theorem field_join {w : HalfWord} {lo m n : Nat} {h : BitVec m} {x : BitVec n} (high : field w (lo + n) m = h)
    (low : field w lo n = x) : field w lo (m + n) = h ++ x := by
  rw [← high, ← low]
  exact (BitVec.extractLsb'_append_extractLsb'_eq_extractLsb' rfl).symm

/-- A part of a field is a field. -/
theorem field_extract {w : HalfWord} {lo len start n : Nat} (inside : start + n ≤ len) :
    (field w lo len).extractLsb' start n = field w (lo + start) n := by
  ext i hi
  have hlen : start + i < len := by omega
  simp [hlen, Nat.add_assoc]

/-- A word is its opcode and the field below it. -/
theorem append_field {m n : Nat} {w : BitVec (m + n)} {h : BitVec m} {x : BitVec n} (opcode : w.extractLsb' n m = h)
    (low : w.extractLsb' 0 n = x) : h ++ x = w := by
  rw [← opcode, ← low, BitVec.extractLsb'_append_extractLsb'_eq_extractLsb' (Nat.zero_add n).symm,
    BitVec.extractLsb'_eq_self]

/-- A word is its opcode and the two fields below it. -/
theorem append_two_fields {m j k : Nat} {w : BitVec (m + j + k)} {h : BitVec m} {y : BitVec j} {x : BitVec k}
    (opcode : w.extractLsb' (k + j) m = h) (middle : w.extractLsb' k j = y) (low : w.extractLsb' 0 k = x) :
    h ++ y ++ x = w := by
  refine append_field ?_ low
  rw [← opcode, ← middle, BitVec.extractLsb'_append_extractLsb'_eq_extractLsb' rfl]

/-- A word is its opcode and the three fields below it. -/
theorem append_three_fields {m l j k : Nat} {w : BitVec (m + l + j + k)} {h : BitVec m} {z : BitVec l} {y : BitVec j}
    {x : BitVec k} (opcode : w.extractLsb' (k + j + l) m = h) (upper : w.extractLsb' (k + j) l = z)
    (middle : w.extractLsb' k j = y) (low : w.extractLsb' 0 k = x) : h ++ z ++ y ++ x = w := by
  refine append_two_fields ?_ middle low
  rw [← opcode, ← upper, BitVec.extractLsb'_append_extractLsb'_eq_extractLsb' rfl]

/-! ## Words that do not decode -/

/-- The word lies in the row (R101). -/
def OpcodeRow.Matches (r : OpcodeRow) (w : HalfWord) : Prop := w &&& r.mask = r.pattern

/-- The rows of a format with must-be-zero bits, each with the mask of its opcode alone (R95). -/
def mustBeZeroRows : List (OpcodeRow × HalfWord) := [
  (⟨"STS16S", 0x6400#16, 0xFC01#16⟩, 0xFC00#16),
  (⟨"EXT16S", 0x7480#16, 0xFFA0#16⟩, 0xFF80#16),
  (⟨"ST16S", 0x7680#16, 0xFFA0#16⟩, 0xFF80#16),
  (⟨"TRAP", 0x7900#16, 0xFFC0#16⟩, 0xFF00#16),
  (⟨"RESTORE", 0x7DA0#16, 0xFFFF#16⟩, 0xFFE0#16),
  (⟨"SKPS", 0x7EE0#16, 0xFFF0#16⟩, 0xFFE0#16)]

/-- What the decoder's answer says of the word: it is the word of the instruction answered, or it has a row's opcode and
does not lie in the row, since a must-be-zero bit is one (R95). -/
def AnswersFor (w : HalfWord) : Except Reject Instr → Prop
  | .ok i => encode i = w
  | .error _ => ∃ z ∈ mustBeZeroRows, w &&& z.2 = z.1.pattern ∧ ¬ z.1.Matches w

/-- A word of a row has the row's bits in every field the mask fixes. -/
theorem OpcodeRow.Matches.field_eq {r : OpcodeRow} {w : HalfWord} (h : r.Matches w) {lo len : Nat}
    (fixed : field r.mask lo len = BitVec.allOnes len) : field w lo len = field r.pattern lo len := by
  calc
    field w lo len = field w lo len &&& field r.mask lo len := by rw [fixed, BitVec.and_allOnes]
    _ = field r.pattern lo len := by rw [← BitVec.extractLsb'_and, h]

/-- A word with an opcode, under the mask of the opcode alone. -/
theorem and_opcode_mask {m n : Nat} {w : BitVec (m + n)} {h : BitVec m} (opcode : w.extractLsb' n m = h) :
    w &&& (BitVec.allOnes m ++ 0#n) = h ++ 0#n := by
  rw [← append_field opcode rfl, Laws.mask_field]

/-- A word of one of those opcodes whose must-be-zero field is not zero. -/
theorem answersFor_mustBeZero {w : HalfWord} {z : OpcodeRow × HalfWord} (n lo len : Nat)
    (listed : mustBeZeroRows[n]? = some z)
    (opcode : w &&& z.2 = z.1.pattern) (fixed : field z.1.mask lo len = BitVec.allOnes len)
    (nonzero : ¬ field w lo len = field z.1.pattern lo len) (e : Reject) : AnswersFor w (.error e) :=
  ⟨z, List.mem_of_getElem? listed, opcode, fun h => nonzero (h.field_eq fixed)⟩

/-! ## What each decoder answers -/

/-- The words of `op6 = 011101` (R100). -/
theorem answersFor_op3u {w : HalfWord} (op6 : field w 10 6 = 0b011101#6) : AnswersFor w (decodeOp3u w) := by
  have opcode {sel : BitVec 3} (h : field w 7 3 = sel) : field w 7 9 = 0b011101#6 ++ sel := field_join op6 h
  unfold decodeOp3u
  split
  -- EXT8S and ST8S, then EXT16S, ST16S and the last row
  case h_1 h | h_5 h => exact append_two_fields (opcode h) rfl rfl
  case h_2 h =>
    split
    case isTrue zero => exact append_three_fields (opcode h) rfl zero rfl
    case isFalse one => exact answersFor_mustBeZero 1 5 1 rfl (and_opcode_mask (opcode h)) rfl one _
  case h_6 h =>
    split
    case isTrue zero => exact append_three_fields (opcode h) rfl zero rfl
    case isFalse one => exact answersFor_mustBeZero 2 5 1 rfl (and_opcode_mask (opcode h)) rfl one _
  case h_8 =>
    have last : field w 7 3 = 0b111#3 := by simp only [imp_false] at *; bv_omega
    exact append_field (opcode last) rfl
  all_goals exact append_field (opcode ‹_›) rfl

/-- The words of `op6 = 011110` (R100). -/
theorem answersFor_op2v {w : HalfWord} (op6 : field w 10 6 = 0b011110#6) : AnswersFor w (decodeOp2v w) := by
  have opcode {sel : BitVec 2} (h : field w 8 2 = sel) : field w 8 8 = 0b011110#6 ++ sel := field_join op6 h
  unfold decodeOp2v
  split
  -- TRAP, and the last row
  case h_2 h =>
    split
    case isTrue zero => exact append_field (field_join (opcode h) zero) rfl
    case isFalse nonzero => exact answersFor_mustBeZero 3 6 2 rfl (and_opcode_mask (opcode h)) rfl nonzero _
  case h_4 =>
    have last : field w 8 2 = 0b11#2 := by simp only [imp_false] at *; bv_omega
    exact append_field (opcode last) rfl
  all_goals exact append_field (opcode ‹_›) rfl

/-- The words of `op6 = 011111` (R100). -/
theorem answersFor_op5w {w : HalfWord} (op6 : field w 10 6 = 0b011111#6) : AnswersFor w (decodeOp5w w) := by
  have opcode {sel : BitVec 5} (h : field w 5 5 = sel) : field w 5 11 = 0b011111#6 ++ sel := field_join op6 h
  unfold decodeOp5w
  split
  -- RESTORE, SKPS and the last row
  case h_14 h =>
    split
    case isTrue zero => exact append_field (opcode h) zero
    case isFalse nonzero => exact answersFor_mustBeZero 4 0 5 rfl (and_opcode_mask (opcode h)) rfl nonzero _
  case h_24 h =>
    split
    case isTrue zero => exact append_field (field_join (opcode h) zero) rfl
    case isFalse one => exact answersFor_mustBeZero 5 4 1 rfl (and_opcode_mask (opcode h)) rfl one _
  case h_32 =>
    have last : field w 5 5 = 0b11111#5 := by simp only [imp_false] at *; bv_omega
    exact append_field (opcode last) rfl
  all_goals exact append_field (opcode ‹_›) rfl

/-- The words with bit 15 clear (R100). -/
theorem answersFor_op6 {w : HalfWord} (clear : field w 15 1 = 0b0#1) : AnswersFor w (decodeOp6 w) := by
  have opcode {op : BitVec 5} (h : field w 10 5 = op) : field w 10 6 = 0b0#1 ++ op := field_join clear h
  unfold decodeOp6
  split
  -- STS8S and STS16S, then the three spaces below this one
  case h_25 h => exact append_field (opcode h) rfl
  case h_26 h =>
    split
    case isTrue zero => exact append_two_fields (opcode h) rfl zero
    case isFalse one => exact answersFor_mustBeZero 0 0 1 rfl (and_opcode_mask (opcode h)) rfl one _
  case h_30 h => exact answersFor_op3u (opcode h)
  case h_31 h => exact answersFor_op2v (opcode h)
  case h_32 =>
    have last : field w 10 5 = 0b11111#5 := by simp only [imp_false] at *; bv_omega
    exact answersFor_op5w (opcode last)
  all_goals exact append_two_fields (opcode ‹_›) rfl rfl

/-- The words of `op3 = 100` (R100). -/
theorem answersFor_op5 {w : HalfWord} (top : field w 13 3 = 0b100#3) : AnswersFor w (decodeOp5 w) := by
  have opcode {sel : BitVec 2} (h : field w 11 2 = sel) : field w 11 5 = 0b100#3 ++ sel := field_join top h
  unfold decodeOp5
  split
  case h_4 =>
    have last : field w 11 2 = 0b11#2 := by simp only [imp_false] at *; bv_omega
    exact append_field (opcode last) rfl
  all_goals exact append_field (opcode ‹_›) rfl

/-- The words of `op3 = 101` (R100). -/
theorem answersFor_op4 {w : HalfWord} (top : field w 13 3 = 0b101#3) : AnswersFor w (decodeOp4 w) := by
  have opcode {sel : BitVec 1} (h : field w 12 1 = sel) : field w 12 4 = 0b101#3 ++ sel := field_join top h
  unfold decodeOp4
  split
  case h_1 h => exact append_three_fields (opcode h) rfl rfl rfl
  case h_2 =>
    have last : field w 12 1 = 0b1#1 := by simp only [imp_false] at *; bv_omega
    exact append_three_fields (opcode last) rfl rfl rfl

/-- The decoder's answer, for every word. -/
theorem answersFor_decodeWord (w : HalfWord) : AnswersFor w (decodeWord w) := by
  unfold decodeWord
  split
  case h_1 top | h_2 top => exact append_two_fields top rfl rfl
  case h_3 top => exact answersFor_op4 top
  case h_4 top => exact answersFor_op5 top
  case h_5 =>
    have top : (field w 13 3).extractLsb' 2 1 = 0b0#1 := by
      generalize field w 13 3 = t at *
      simp only [imp_false] at *
      decide +revert
    exact answersFor_op6 ((field_extract (by decide)).symm.trans top)

/-- Settles O2: the answer is an instruction of that word. -/
theorem encodeInvertsDecode : Obligations.EncodeInvertsDecode := by
  intro w i decodes
  have answer := answersFor_decodeWord w
  rwa [decodes] at answer

/-! ## The rows of the opcode map -/

/-- Every instruction's word lies in the row of its mnemonic: the laws of the single instructions, together. -/
theorem Laws.EncodingMatchesRow.all (i : Instr) : Statement i :=
  Instr.casesOn (motive := Statement) i add addi sub subi cmp cmpi lsl lsli lsr lsri asr asri mov movi EncodingMatchesRow.and
    andn EncodingMatchesRow.or xor bgen ext8d skp0 skp1 ld st sts8s sts16s ext16d movhi usr0 ext8s ext16s st8s st16s save
    trap EncodingMatchesRow.not neg abs sext8 sext16 rlc rrc swap usr1 usr2 usr3 usr4 restore tret st8d st16d fill8 fill16
    mstep mul skprz skps wrctl rdctl skprnz jmp call br bsr pfx stp ldp sts lds unused011101010 unused011101011
    unlisted011101110 unlisted011101111 unlisted01111010 unlisted01111011 unused01111100111 unused01111101111
    unused01111111011 unused01111111100 unused01111111101 unlisted10010

/-- Two rows no word lies in both of: they fix a common bit to different values. -/
abbrev OpcodeRow.Apart (r s : OpcodeRow) : Prop := r.pattern &&& s.mask ≠ s.pattern &&& r.mask

/-- A word of one row lies in no row apart from it. -/
theorem OpcodeRow.Apart.not_matches {r s : OpcodeRow} (apart : r.Apart s) {w : HalfWord} (h : r.Matches w) :
    ¬ s.Matches w := by
  intro h'
  apply apart
  rw [← h, ← h', BitVec.and_assoc, BitVec.and_assoc, BitVec.and_comm r.mask]

/-- The 81 rows are pairwise apart. -/
theorem rows_apart : (opcodeMap ++ unusedMap).Pairwise OpcodeRow.Apart := by decide

/-- No two rows bear one mnemonic. -/
theorem mnemonics_nodup : ((opcodeMap ++ unusedMap).map OpcodeRow.mnemonic).Nodup := by decide

/-- A row's opcode alone is apart from every other instruction's row. -/
theorem mustBeZeroRows_apart :
    ∀ z ∈ mustBeZeroRows, ∀ r ∈ opcodeMap, r = z.1 ∨ OpcodeRow.Apart { z.1 with mask := z.2 } r := by decide

/-- A word lies in one row at most. -/
theorem row_unique {r s : OpcodeRow} {w : HalfWord} (hr : r ∈ opcodeMap ++ unusedMap) (hs : s ∈ opcodeMap ++ unusedMap)
    (hrw : r.Matches w) (hsw : s.Matches w) : r = s := by
  have : Std.Symm OpcodeRow.Apart := ⟨fun _ _ apart => apart.symm⟩
  by_contra different
  exact (rows_apart.forall hr hs different).not_matches hrw hsw

/-- A word that does not decode lies in no row. -/
theorem not_matches_of_mustBeZero {r : OpcodeRow} {w : HalfWord} {e : Reject} (hr : r ∈ opcodeMap)
    (answer : AnswersFor w (.error e)) : ¬ r.Matches w := by
  obtain ⟨z, hz, opcode, outside⟩ := answer
  obtain rfl | apart := mustBeZeroRows_apart z hz r hr
  · exact outside
  · exact apart.not_matches opcode

/-- The instructions are those whose mnemonic the opcode map lists. -/
theorem isListed_eq (i : Instr) : i.isListed = (opcodeMap.map OpcodeRow.mnemonic).contains i.mnemonic := by
  cases i <;> rfl

/-- The row of a listed instruction is in the opcode map. -/
theorem isListed_iff {r : OpcodeRow} {i : Instr} (hr : r ∈ opcodeMap ++ unusedMap) (name : r.mnemonic = i.mnemonic) :
    i.isListed = true ↔ r ∈ opcodeMap := by
  rw [isListed_eq, List.contains_iff_mem, List.mem_map, ← name]
  refine ⟨?_, fun h => ⟨r, h, rfl⟩⟩
  rintro ⟨s, hs, same⟩
  exact List.inj_on_of_nodup_map mnemonics_nodup (List.mem_append_left _ hs) hr same ▸ hs

/-- Settles O3: a word of a row decodes to an instruction of that row, since it lies in no other; and an instruction's word
lies in its own row. -/
theorem opcodeMapSelectsInstruction : Obligations.OpcodeMapSelectsInstruction := by
  refine ⟨rfl, fun r hr w => ⟨fun inRow => ?_, ?_⟩⟩
  · have answer := answersFor_decodeWord w
    cases decodes : decodeWord w with
    | error e =>
      rw [decodes] at answer
      exact absurd inRow (not_matches_of_mustBeZero hr answer)
    | ok i =>
      rw [decodes] at answer
      obtain ⟨s, hs, name, hsw⟩ := Laws.EncodingMatchesRow.all i
      rw [answer] at hsw
      obtain rfl := row_unique (List.mem_append_left _ hr) hs inRow hsw
      exact ⟨i, rfl, (isListed_iff hs name).2 hr, name.symm⟩
  · rintro ⟨i, decodes, -, name⟩
    obtain ⟨s, hs, own, hsw⟩ := Laws.EncodingMatchesRow.all i
    obtain rfl := List.inj_on_of_nodup_map mnemonics_nodup (List.mem_append_left _ hr) hs (name.symm.trans own.symm)
    rwa [encodeInvertsDecode w i decodes] at hsw

end Sys2Proof
end

section
/-! Words and rows that are no instruction (R47, R103), the operands of a prefixed instruction (R97, R98), and the logic
instructions (R185 to R189). -/

namespace Sys2Proof.Machine

/-! ## Refusals -/

/-- Bytes that decode to no listed instruction are refused (R47 (b)). -/
theorem State.fetchDecode_refused {s u : State} {lo hi : Byte} (fetch : s.fetchBytes = .ok { bytes := [lo, hi], after := u })
    (unlisted : ∀ i, decodeWord (wordOfBytes lo hi) = .ok i → i.isListed = false) :
    s.fetchDecode = .error (.refusal .unusedEncoding) := by
  rw [State.fetchDecode, fetch, bind_ok]
  cases decodes : decodeWord (wordOfBytes lo hi) with
  | error e => simp only [decodeBytes, decodes]
  | ok i => simp [decodeBytes, decodes, unlisted i decodes]

/-- Settles O5: a listed instruction's word would lie in its row. -/
theorem wordsOfNoRowAreRefused : Obligations.WordsOfNoRowAreRefused := by
  intro s u lo hi quiet fetch noRow
  have unlisted (i : Instr) (decodes : decodeWord (wordOfBytes lo hi) = .ok i) : i.isListed = false := by
    obtain ⟨r, hr, name, inRow⟩ := Laws.EncodingMatchesRow.all i
    rw [encodeInvertsDecode _ i decodes] at inRow
    rw [Bool.eq_false_iff, Ne, isListed_iff hr name]
    exact fun listed => noRow r listed inRow
  simp only [step, stepCore, quiet, State.runInstruction, State.fetchDecode_refused fetch unlisted, outcome_refusal]

/-- Settles O6: the meaning of each of these rows is the refusal (R103). -/
theorem unusedRowsAreRefused : Obligations.UnusedRowsAreRefused := fun _ _ _ _ _ =>
  ⟨rfl, rfl, rfl, rfl, rfl, rfl, rfl, rfl, rfl, rfl, rfl, rfl⟩

/-! ## What K contributes -/

/-- The unsigned immediate is the number `K : IMM5` (R98 (a)). -/
theorem State.immK_eq (s : State) (imm5 : BitVec 5) : s.immK imm5 = BitVec.ofNat 32 (s.immNat imm5) := by
  apply BitVec.eq_of_toNat_eq
  rw [State.immK, BitVec.toNat_setWidth, State.imm16, toNat_append_eq_mul_add, BitVec.toNat_ofNat, State.immNat,
    show 2 ^ 5 = 32 from rfl]

/-- The word offset of a signed value is four times that value (R98 (c), (d)). -/
theorem signExtend_mul_four {w : Nat} (x : BitVec w) : x.signExtend 32 * 4#32 = BitVec.ofInt 32 (4 * x.toInt) := by
  rw [Int.mul_comm, BitVec.ofInt_mul]
  rfl

/-- The signed value of `K : IMM5`. -/
theorem State.imm16_toInt (s : State) (imm5 : BitVec 5) : (s.imm16 imm5).toInt = 32 * s.k.toInt + imm5.toNat :=
  BitVec.toInt_append

/-- Settles O31: the offsets are signed values times four; with `K` zero nothing but IMM5 is left of each. -/
theorem prefixedOperandValues : Obligations.PrefixedOperandValues := by
  intro s imm5
  have himm := s.immK_eq imm5
  have hoffset : s.offsetK = BitVec.ofInt 32 (4 * s.k.toInt) := signExtend_mul_four s.k
  have hoffsetImm : s.offsetKImm imm5 = BitVec.ofInt 32 (4 * (32 * s.k.toInt + imm5.toNat)) := by
    rw [State.offsetKImm, signExtend_mul_four, State.imm16_toInt]
  refine ⟨himm, hoffset, hoffsetImm, fun hk => ⟨?_, ?_, ?_⟩⟩
  · rw [himm, State.immNat, hk]
    simp
  · rw [hoffset, hk]
    rfl
  · have hvalue : 4 * (32 * (0#11).toInt + imm5.toNat) = (4 * imm5.toNat : Nat) := by simp
    rw [hoffsetImm, hk, hvalue, BitVec.ofInt_natCast]

/-! ## The logic instructions -/

/-- After PFX the second operand is the immediate (R97). -/
theorem State.logicOperand_immediate {s : State} (h : s.pfx = true) (b : BitVec 5) :
    s.logicOperand b = .ok (BitVec.ofNat 32 (s.immNat b)) := by
  simp [State.logicOperand, h, State.immK_eq]

/-- N and Z of a logic result, as numbers (R185). -/
theorem logicFlags_eq {s t : State} {r : Word} (h : t.status = logicFlags r s.status) : LogicFlags s t r := by
  have hz : (r == 0#32) = decide (r.toNat = 0) := by
    simp only [beq_eq_decide, BitVec.toNat_eq, BitVec.toNat_ofNat, Nat.zero_mod]
  rw [LogicFlags, h, logicFlags, BitVec.msb_eq_decide, hz]

/-- Settles O20: each instruction reads its two operands and ends by writing the result with its flags. -/
theorem logicResult : Obligations.LogicResult := by
  intro s a b x y hx operand
  have hy : s.logicOperand b = .ok y := by
    obtain ⟨noPfx, hy⟩ | ⟨pfx, rfl⟩ := operand
    · rw [State.logicOperand_register noPfx, hy]
    · exact State.logicOperand_immediate pfx b
  have writes (r : Word) : ∃ t, outcome (s.retireReg a r (logicFlags r)) = .next t ∧ WritesOnly s t a r ∧
      LogicFlags s t r := by
    obtain ⟨t, ht, status, only⟩ := State.retireReg_writesOnly hx r (f := logicFlags r) fun _ => rfl
    exact ⟨t, by rw [ht, outcome_ok], only, logicFlags_eq status⟩
  simp only [exec, execAnd, execAndn, execOr, execXor, hx, hy, bind_ok]
  exact ⟨writes _, writes _, writes _, writes _⟩

end Sys2Proof.Machine
end

section
/-! Control transfer (R131 to R134): the two ways a delayed transfer ends, without and with the link, and the target and
link of each instruction as numbers. -/

namespace Sys2Proof.Machine

/-! ## Targets and link -/

/-- The branch target counts half-words from the delay slot, with the sign of IMM11 (R131). -/
theorem State.branchTarget_eq (s : State) (imm11 : BitVec 11) :
    s.branchTarget imm11 = BitVec.ofInt 32 (s.pc.toInt + (imm11.toInt + 1) * 2) := by
  rw [BitVec.ofInt_add, BitVec.ofInt_toInt, BitVec.ofInt_mul, BitVec.ofInt_add]
  rfl

/-- The link is the address after the delay slot as a half-word address (R132). -/
theorem State.link_eq (s : State) : s.link = BitVec.ofNat 32 ((s.pc.toNat + 4) % 4294967296 / 2) := by
  rw [State.link]
  bv_omega

/-- A doubled register as a number: bit 31 is lost (R133). -/
theorem double_eq (x : Word) : x * 2#32 = BitVec.ofNat 32 (2 * x.toNat) := by
  bv_omega

/-! ## The end of a delayed transfer -/

section Transfer

variable {i : Instr} {s : State} {target : Word}

/-- A transfer without link leaves its target pending, and nothing else (R45). -/
theorem transfer_result (transfer : exec i s = .next (s.retireTo target)) :
    ∃ t, exec i s = .next t ∧ WritesNothing s t ∧ t.status = s.status ∧ Transferred s t target :=
  ⟨_, transfer, ⟨rfl, ⟨rfl, rfl, rfl⟩, ⟨fun _ => rfl, rfl⟩, ⟨⟨rfl, rfl, rfl⟩, rfl⟩⟩, rfl, ⟨rfl, rfl, rfl, rfl, rfl, rfl⟩⟩

/-- A transfer with link writes `%o7`, where that is in the file, and leaves its target pending (R45). -/
theorem linkedTransfer_result {y : Word} (readable : s.readReg 15#5 = .ok y)
    (transfer : exec i s = outcome (s.writeReg regLink s.link >>= fun u => pure (u.retireTo target))) :
    ∃ t, exec i s = .next t ∧ t.readReg 15#5 = .ok (BitVec.ofNat 32 ((s.pc.toNat + 4) % 4294967296 / 2)) ∧
      SameFileBut s t 15#5 ∧ SameControl s t ∧ SameMemory s t ∧ SameOutside s t ∧ t.status = s.status ∧
      Transferred s t target := by
  obtain ⟨j, hj, hlt, hu⟩ := State.writeReg_of_readReg readable s.link
  refine ⟨_, transfer.trans (outcome_eq_next.2 (bind_eq_ok.2 ⟨_, hu, rfl⟩)), ?_, SameFileBut.of_set hj rfl,
    ⟨rfl, rfl, rfl⟩, ⟨fun _ => rfl, rfl⟩, ⟨⟨rfl, rfl, rfl⟩, rfl⟩, rfl, ⟨rfl, rfl, rfl, rfl, rfl, rfl⟩⟩
  rw [← s.link_eq]
  exact State.readReg_set hj hlt rfl rfl

end Transfer

/-! ## The four instructions -/

/-- Settles O41: BR ends without and BSR with the link, both at the branch target. -/
theorem branchResult : Obligations.BranchResult := by
  intro s imm11
  rw [← s.branchTarget_eq imm11]
  exact ⟨transfer_result rfl, fun _ hlink => linkedTransfer_result hlink rfl⟩

/-- JMP, its register read (R133). -/
theorem exec_jmp {s : State} {a : RegNum} {x : Word} (hx : s.readReg a = .ok x) :
    exec (.jmp a) s = .next (s.retireTo (x * 2#32)) := by
  simp only [exec, execJmp, hx, bind_ok, pure_ok, outcome_ok]

/-- CALL, its register read before the link is written, be it `%o7` itself (R134). -/
theorem exec_call {s : State} {a : RegNum} {x : Word} (hx : s.readReg a = .ok x) :
    exec (.call a) s = outcome (s.writeReg regLink s.link >>= fun u => pure (u.retireTo (x * 2#32))) := by
  simp only [exec, execCall, hx, bind_ok]

/-- Settles O42: JMP ends without and CALL with the link, both at twice the register. -/
theorem jumpResult : Obligations.JumpResult := by
  intro s a x hx
  rw [← double_eq]
  exact ⟨transfer_result (exec_jmp hx), fun _ hlink => linkedTransfer_result hlink (exec_call hx)⟩

end Sys2Proof.Machine

namespace Sys2Proof

/-! ## Sample words -/

/-- A word that is the encoding of an instruction decodes to it. -/
theorem decodeWord_of_encode {i : Instr} {w : HalfWord} (h : encode i = w) : decodeWord w = .ok i :=
  h ▸ decodeInvertsEncode i

/-- Settles O4: each of the first eight words is the encoding of its instruction, and the last has RESTORE's bits with bit
0, which must be zero, set. -/
theorem sampleWordsDecode : Obligations.SampleWordsDecode :=
  ⟨decodeWord_of_encode (by decide), decodeWord_of_encode (by decide), decodeWord_of_encode (by decide),
    decodeWord_of_encode (by decide), decodeWord_of_encode (by decide), decodeWord_of_encode (by decide),
    decodeWord_of_encode (by decide), decodeWord_of_encode (by decide), by decide⟩

end Sys2Proof
end

section
/-! TRAP and TRET (R140, R141): the entry of an exception by instruction, the return from one, and that the return undoes the
entry in everything the caller sees. -/

namespace Sys2Proof.Machine

/-! ## TRAP -/

/-- TRAP is the entry of its exception, to return to the instruction after it (R140). -/
theorem exec_trap (s : State) (n : BitVec 6) : exec (.trap n) s = outcome (s.exceptionEntry n (s.pc + 2#32) true) := rfl

/-- The window below one that is at most NWIN, and is not window 0, is in the file. -/
theorem State.below_inside {s : State} (notZero : s.status.cwp ≠ 0#5) (atMost : s.status.cwp.toNat ≤ s.nwin) :
    (s.status.cwp - 1#5).toNat < s.nwin := by
  bv_omega

/-- TRAP from a window whose lower neighbour is in the file answers what the read of the vector answers (R262, R71). -/
theorem exec_trap_inside {s : State} (notZero : s.status.cwp ≠ 0#5) (atMost : s.status.cwp.toNat ≤ s.nwin) (n : BitVec 6) :
    (∀ h, s.loadWord (s.vectorAddr n) = .ok h →
      ∃ t, exec (.trap n) s = .next t ∧ Entered s t s.rf s.status (s.status.cwp - 1#5) n h (s.pc + 2#32)) ∧
    (∀ stop, s.loadWord (s.vectorAddr n) = .error stop → exec (.trap n) s = outcome (.error stop)) := by
  obtain ⟨enters, stops⟩ := State.exceptionEntry_entered (n := n) (dec := true) ⟨rfl, rfl, rfl⟩ (SameMemory.refl s)
    (SameOutside.refl s) (fun _ => notZero) (State.below_inside notZero atMost) (s.pc + 2#32)
  refine ⟨fun h hh => ?_, fun stop hstop => congrArg outcome (stops stop hstop)⟩
  obtain ⟨t, ht, entered⟩ := enters h hh
  exact ⟨t, congrArg outcome ht, entered⟩

/-- Settles O47: TRAP is exception entry, which faults at window 0, faults outside the file, and otherwise answers what the
read of the vector answers. -/
theorem trapEntersException : Obligations.TrapEntersException := by
  intro s n
  refine ⟨fun atZero => ?_, fun notZero outside => ?_, fun notZero atMost _ => exec_trap_inside notZero atMost n⟩
  · rw [exec_trap, State.exceptionEntry_windowZero atZero, outcome_fault]
  · rw [exec_trap, State.exceptionEntry_outside (n := n) (dec := true) (fun _ => notZero) outside, outcome_fault]

/-! ## TRET -/

/-- TRET, its register read in the handler's window (R141). -/
theorem exec_tret {s : State} {a : RegNum} {x : Word} (hx : s.readReg a = .ok x) :
    exec (.tret a) s = .next (s.exceptionReturn x) := by
  simp only [exec, execTret, hx, bind_ok, pure_ok, outcome_ok]

/-- The return from an exception writes STATUS and the hidden state alone (R271). -/
theorem WritesNothing.exceptionReturn (s : State) (x : Word) : WritesNothing s (s.exceptionReturn x) :=
  ⟨rfl, ⟨rfl, rfl, rfl⟩, ⟨fun _ => rfl, rfl⟩, ⟨⟨rfl, rfl, rfl⟩, rfl⟩⟩

/-- Settles O49: TRET is the return from an exception to twice its register. -/
theorem tretReturns : Obligations.TretReturns := by
  intro s a x hx
  rw [← double_eq]
  exact ⟨_, exec_tret hx, WritesNothing.exceptionReturn s x, rfl, rfl, rfl, rfl, rfl, rfl, rfl⟩

/-! ## TRAP and TRET -/

/-- The out and local registers of a window are no visible registers of the window above it (R23, decision D10). -/
theorem State.physIndex_ne_above {s t : State} {k : RegNum} (hk : 8 ≤ k.toNat) (notIn : k.toNat < 24)
    (cwp : s.status.cwp.toNat = t.status.cwp.toNat + 1) (inside : t.status.cwp.toNat < t.nwin) {i : RegNum} {j : Nat}
    (hj : s.physIndex i = some j) : t.physIndex k ≠ some j := by
  rw [State.physIndex_window hk inside, Ne, Option.some.injEq]
  rw [State.physIndex] at hj
  split at hj
  · cases hj
    omega
  · split at hj <;> cases hj
    omega

/-- A visible register reads the same where the physical register it names is the same. -/
theorem State.readReg_congr_at {s u : State} {i : RegNum} (index : u.physIndex i = s.physIndex i)
    (same : ∀ j, s.physIndex i = some j → u.rf[j]? = s.rf[j]?) : u.readReg i = s.readReg i := by
  rw [State.readReg, State.readReg, index]
  cases hj : s.physIndex i with
  | none => rfl
  | some j => rw [Option.bind_some, Option.bind_some, same j hj]

/-- A handler entered from the window above has changed no register that window sees: they read as before once its CWP is
back. -/
theorem Entered.readReg_caller {s t u : State} {n : BitVec 6} {h : Loaded} {ret : Word}
    (entered : Entered s t s.rf s.status (s.status.cwp - 1#5) n h ret) (notZero : s.status.cwp ≠ 0#5)
    (inside : s.status.cwp.toNat < s.nwin) (file : u.rf = t.rf) (back : u.status.cwp = s.status.cwp) (i : RegNum) :
    u.readReg i = s.readReg i := by
  obtain ⟨length, others⟩ := entered.others
  have cwp : s.status.cwp.toNat = t.status.cwp.toNat + 1 := by
    rw [entered.status]
    bv_omega
  have nwin : t.nwin = s.nwin := by rw [State.nwin, State.nwin, length]
  refine State.readReg_congr_at (State.physIndex_congr (file ▸ length) back i) fun j hj => ?_
  rw [file]
  exact others j (State.physIndex_ne_above (by decide) (by decide) cwp (by omega) hj)

/-- Doubling half of an even address gives the address (R262, R271). -/
theorem double_half {x : Word} (even : x.getLsbD 0 = false) : BitVec.ofNat 32 (x.toNat / 2) * 2#32 = x := by
  rw [even_iff] at even
  bv_omega

/-- Settles O50: TRET finds in `%o7` and ISTATUS what TRAP has left there, and TRAP has written no other register. -/
theorem trapThenTretResumes : Obligations.TrapThenTretResumes := by
  intro s n h _ notZero inside even hload
  have notZero : s.status.cwp ≠ 0#5 := fun atZero => notZero (by rw [atZero]; rfl)
  obtain ⟨enters, -⟩ := exec_trap_inside notZero (Nat.le_of_lt inside) n
  obtain ⟨t, ht, entered⟩ := enters h hload
  obtain ⟨loLimit, hiLimit⟩ := entered.limits
  have status := entered.istatus
  refine ⟨t, t.exceptionReturn _, ht, exec_tret entered.link, ?_, status, status, ?_,
    ⟨entered.memory.bytes, entered.memory.stores⟩, loLimit, hiLimit,
    ⟨entered.inputs.platform, entered.inputs.env, entered.inputs.now⟩, entered.bus⟩
  · exact double_half (even_add even (by decide))
  · exact entered.readReg_caller notZero inside rfl (by rw [State.exceptionReturn_status, status])

end Sys2Proof.Machine
end

section
/-! Conditional skip (R145 to R151): the one way the five instructions end, the conditions on a register as numbers, and what
a condition table answers. -/

namespace Sys2Proof.Machine

/-! ## The end of a skip instruction -/

section Skip

variable {i : Instr} {s : State}

/-- A skip instruction advances and changes `skip`, which a condition that holds sets (R145). -/
theorem skip_result {b : Bool} (skips : exec i s = .next (s.retireSkip b)) :
    ∃ t, exec i s = .next t ∧ WritesNothing s t ∧ Retired s t ∧ t.status = s.status ∧ t.skip = (s.skip || b) :=
  ⟨_, skips, ⟨rfl, ⟨rfl, rfl, rfl⟩, ⟨fun _ => rfl, rfl⟩, ⟨⟨rfl, rfl, rfl⟩, rfl⟩⟩, ⟨rfl, rfl, rfl, rfl, rfl⟩, rfl, rfl⟩

/-- A skip instruction whose condition `p` is on one register, where that is in the file. -/
theorem registerSkip_result {a : RegNum} {x : Word} (hx : s.readReg a = .ok x) {cond : Word → Bool} {p : Prop}
    (meaning : exec i s = outcome (s.readReg a >>= fun y => pure (s.retireSkip (cond y)))) (cond_iff : cond x = true ↔ p) :
    ∃ t, exec i s = .next t ∧ WritesNothing s t ∧ Retired s t ∧ t.status = s.status ∧
      (t.skip = true ↔ s.skip = true ∨ p) := by
  have skips : exec i s = .next (s.retireSkip (cond x)) := by rw [meaning, hx, bind_ok, pure_ok, outcome_ok]
  obtain ⟨t, ht, nothing, retired, status, skip⟩ := skip_result skips
  exact ⟨t, ht, nothing, retired, status, by rw [skip, Bool.or_eq_true, cond_iff]⟩

end Skip

/-! ## The conditions on a register -/

/-- A bit of a word is 1 where its number is odd. -/
theorem bit_set_iff {x : Word} {n : Nat} : x.getLsbD n = true ↔ x.toNat / 2 ^ n % 2 = 1 := by
  rw [getLsbD_eq_decide, decide_eq_true_iff]

/-- A bit of a word is 0 where its number is even. -/
theorem bit_clear_iff {x : Word} {n : Nat} : (!x.getLsbD n) = true ↔ x.toNat / 2 ^ n % 2 = 0 := by
  rw [Bool.not_eq_true', ← Bool.not_eq_true, bit_set_iff]
  exact Nat.mod_two_ne_one

/-- All 32 bits of a word are zero where the number is (R148). -/
theorem word_zero_iff {x : Word} : (x == 0#32) = true ↔ x.toNat = 0 := by
  rw [beq_iff_eq, BitVec.toNat_eq, BitVec.toNat_ofNat, Nat.zero_mod]

/-- A word has a bit set where its number is not zero (R151). -/
theorem word_nonzero_iff {x : Word} : (x != 0#32) = true ↔ x.toNat ≠ 0 := by
  rw [bne, Bool.not_eq_true', ← Bool.not_eq_true, word_zero_iff]

/-- Settles O44: each of the four is its encoding's instruction, and ends as a skip on its condition. -/
theorem skipResult : Obligations.SkipResult := fun _ _ _ _ =>
  ⟨decodeWord_of_encode rfl, decodeWord_of_encode rfl, decodeWord_of_encode rfl, decodeWord_of_encode rfl, fun hx =>
    ⟨registerSkip_result hx rfl bit_clear_iff, registerSkip_result hx rfl bit_set_iff,
      registerSkip_result hx rfl word_zero_iff, registerSkip_result hx rfl word_nonzero_iff⟩⟩

/-! ## Condition tables -/

/-- In a table that lists no number twice, a number has the test it is listed with. -/
theorem conditionOf_of_mem {table : List (BitVec 4 × FlagTest)} (nodup : (table.map Prod.fst).Nodup) {code : BitVec 4}
    {test : FlagTest} (listed : (code, test) ∈ table) : conditionOf table code = some test := by
  rw [conditionOf]
  cases found : table.find? fun row => row.1 == code with
  | none => exact absurd (List.find?_eq_none.1 found _ listed) (by simp)
  | some row =>
    have number : row.1 = code := by simpa using List.find?_some found
    rw [List.inj_on_of_nodup_map nodup (List.mem_of_find?_eq_some found) listed number, Option.map_some]

/-- A number has no test where no row lists it. -/
theorem conditionOf_eq_none {table : List (BitVec 4 × FlagTest)} {code : BitVec 4} :
    conditionOf table code = none ↔ ∀ row ∈ table, row.1 ≠ code := by
  simp only [conditionOf, Option.map_eq_none_iff, List.find?_eq_none, beq_iff_eq, ne_eq]

/-- The table of R150 lists no number twice. -/
theorem conditionTableDefault_nodup : (conditionTableDefault.map Prod.fst).Nodup := by decide

/-- The table of R150 lists no number from 14 on. -/
theorem conditionTableDefault_lt : ∀ row ∈ conditionTableDefault, row.1.toNat < 14 := by decide

/-! ## SKPS -/

/-- SKPS with a number that has a test (R149). -/
theorem exec_skps_of_test {s : State} {code : BitVec 4} {test : FlagTest}
    (h : conditionOf s.platform.conditions code = some test) :
    exec (.skps code) s = .next (s.retireSkip (test.holds s.status)) := by
  simp only [exec, execSkps, h, outcome_ok]

/-- SKPS with a number that has none (R149). -/
theorem exec_skps_refused {s : State} {code : BitVec 4} (h : conditionOf s.platform.conditions code = none) :
    exec (.skps code) s = .refused .unknownCondition := by
  simp only [exec, execSkps, h, outcome_refusal]

/-- Settles O45: the test found decides; the fourteen listed pairs are the rows of R150's table, each with its test evaluated,
and no row has a number from 14 on. -/
theorem skipOnConditionResult : Obligations.SkipOnConditionResult := by
  intro s code
  refine ⟨fun _ h => skip_result (exec_skps_of_test h), exec_skps_refused, fun table =>
    ⟨fun holds listed => ?_, fun high => ?_⟩⟩
  · have evaluated : (code.toNat, holds) ∈ conditionTableDefault.map fun row => (row.1.toNat, row.2.holds s.status) := listed
    obtain ⟨⟨number, test⟩, inTable, same⟩ := List.mem_map.1 evaluated
    obtain ⟨sameCode, rfl⟩ := Prod.mk.inj same
    obtain rfl := BitVec.eq_of_toNat_eq sameCode
    have found : conditionOf s.platform.conditions number = some test :=
      table ▸ conditionOf_of_mem conditionTableDefault_nodup inTable
    exact ⟨_, exec_skps_of_test found, rfl⟩
  · refine exec_skps_refused (conditionOf_eq_none.2 ?_)
    rw [table]
    rintro row hrow rfl
    exact Nat.not_lt.2 high (conditionTableDefault_lt row hrow)

end Sys2Proof.Machine
end

section
/-! Custom instructions (R155 to R160): the one way the five instructions end, where the operation is configured and where it
is not. -/

namespace Sys2Proof.Machine

/-! ## The user operation -/

/-- A configured USR computes its operation (R155). -/
theorem State.custom_configured {s : State} {n : Fin 5} (h : n ∈ s.platform.usrConfigured) (x y : Word) :
    s.custom n x y = .ok (Config.usrOp n x y) :=
  if_pos h

/-- A USR that is not configured is refused (R155, decision D27). -/
theorem State.custom_unconfigured {s : State} {n : Fin 5} (h : n ∉ s.platform.usrConfigured) (x y : Word) :
    s.custom n x y = .error (.refusal .customInstructionNotConfigured) :=
  if_neg h

/-- USR1 to USR4, their operands read (R157 to R160). -/
theorem State.customWithZero_eq {s : State} {a : RegNum} {x z : Word} (hx : s.readReg a = .ok x)
    (hz : s.readReg 0#5 = .ok z) (n : Fin 5) :
    s.customWithZero n a = s.custom n x z >>= fun v => s.retireReg a v keepFlags := by
  simp only [State.customWithZero, regZero, hx, hz, bind_ok]

/-- USR0, its operands read (R156). -/
theorem exec_usr0 {s : State} {a b : RegNum} {x y : Word} (hx : s.readReg a = .ok x) (hy : s.readReg b = .ok y) :
    exec (.usr0 a b) s = outcome (s.custom 0 x y >>= fun v => s.retireReg a v keepFlags) := by
  simp only [exec, execUsr0, hx, hy, bind_ok]

/-! ## The five instructions -/

/-- An instruction that ends with a user operation into a register of the file writes it and nothing else, or is refused. -/
theorem custom_result {i : Instr} {s : State} {a : RegNum} {n : Fin 5} {x y : Word} (hx : s.readReg a = .ok x)
    (meaning : exec i s = outcome (s.custom n x y >>= fun v => s.retireReg a v keepFlags)) :
    (n ∈ s.platform.usrConfigured → ∃ t, exec i s = .next t ∧ t.status = s.status ∧
      WritesOnly s t a (Config.usrOp n x y)) ∧
    (n ∉ s.platform.usrConfigured → exec i s = .refused .customInstructionNotConfigured) := by
  refine ⟨fun configured => ?_, fun unconfigured => ?_⟩
  · obtain ⟨t, ht, status, only⟩ :=
      State.retireReg_writesOnly hx (Config.usrOp n x y) (f := keepFlags) fun _ => rfl
    exact ⟨t, by rw [meaning, State.custom_configured configured, bind_ok, ht, outcome_ok], status, only⟩
  · rw [meaning, State.custom_unconfigured unconfigured, bind_error, outcome_refusal]

/-- Settles O46: each word is the encoding of its instruction, and each instruction ends with its user operation, USR1 to USR4
by the operation they share. -/
theorem customResult : Obligations.CustomResult := by
  intro s a b x y z
  refine ⟨decodeWord_of_encode rfl, decodeWord_of_encode rfl, decodeWord_of_encode rfl, decodeWord_of_encode rfl,
    decodeWord_of_encode rfl, fun hx hy hz => ?_⟩
  have withZero {i : Instr} {n : Fin 5} (shared : exec i s = outcome (s.customWithZero n a)) :=
    custom_result hx (shared.trans (congrArg outcome (State.customWithZero_eq hx hz n)))
  simp only [List.forall_mem_cons]
  exact ⟨custom_result hx (exec_usr0 hx hy), withZero rfl, withZero rfl, withZero rfl, withZero rfl, List.forall_mem_nil _⟩

end Sys2Proof.Machine
end

section
/-! MOV, MOVI, MOVHI and BGEN (R163 to R166): the one way the four instructions end, and the values they write as numbers. -/

namespace Sys2Proof.Machine

/-! ## The values -/

/-- `K : IMM5` as a half-word is its number (R165). -/
theorem State.imm16_toNat (s : State) (imm5 : BitVec 5) : (s.imm16 imm5).toNat = s.immNat imm5 :=
  toNat_append_eq_mul_add s.k imm5

/-- Two joined bit vectors, as a number. -/
theorem append_eq_ofNat {m n : Nat} (x : BitVec m) (y : BitVec n) :
    x ++ y = BitVec.ofNat (m + n) (x.toNat * 2 ^ n + y.toNat) := by
  rw [← toNat_append_eq_mul_add, BitVec.ofNat_toNat, BitVec.setWidth_eq]

/-- The low half-word is the remainder modulo 2^16 (R6). -/
theorem halfLane_zero_toNat (x : Word) : (halfLane 0 x).toNat = x.toNat % 65536 := rfl

/-- The high half-word written is `K : IMM5`, the low one is kept (R165). -/
theorem State.movhiValue_eq (s : State) (imm5 : BitVec 5) (x : Word) :
    s.imm16 imm5 ++ halfLane 0 x = BitVec.ofNat 32 (s.immNat imm5 * 65536 + x.toNat % 65536) := by
  rw [append_eq_ofNat, State.imm16_toNat, halfLane_zero_toNat, show 2 ^ 16 = 65536 from rfl]

/-- A one shifted to a bit's place is that power of two (R166). -/
theorem one_shiftLeft_eq (n : Nat) : 1#32 <<< n = BitVec.ofNat 32 (2 ^ n) := by
  apply BitVec.eq_of_toNat_eq
  rw [BitVec.toNat_shiftLeft, Nat.shiftLeft_eq, BitVec.toNat_ofNat, BitVec.toNat_ofNat,
    Nat.mod_eq_of_lt (by decide : 1 < 2 ^ 32), Nat.one_mul]

/-! ## The end of a move -/

/-- An instruction that ends by writing `v`, without flags, to a register of the file changes nothing else. -/
theorem move_result {i : Instr} {s : State} {a : RegNum} {x v w : Word} (readable : s.readReg a = .ok x)
    (moves : exec i s = outcome (s.retireReg a v keepFlags)) (value : v = w) :
    ∃ t, exec i s = .next t ∧ t.status = s.status ∧ WritesOnly s t a w := by
  subst value
  obtain ⟨t, ht, status, only⟩ := State.retireReg_writesOnly readable v (f := keepFlags) fun _ => rfl
  exact ⟨t, by rw [moves, ht, outcome_ok], status, only⟩

/-- MOV, its second register read (R163). -/
theorem exec_mov {s : State} {a b : RegNum} {y : Word} (hy : s.readReg b = .ok y) :
    exec (.mov a b) s = outcome (s.retireReg a y keepFlags) := by
  simp only [exec, execMov, hy, bind_ok]

/-- MOVHI, its register read (R165). -/
theorem exec_movhi {s : State} {a : RegNum} {x : Word} (hx : s.readReg a = .ok x) (imm5 : BitVec 5) :
    exec (.movhi a imm5) s = outcome (s.retireReg a (s.imm16 imm5 ++ halfLane 0 x) keepFlags) := by
  simp only [exec, execMovhi, hx, bind_ok]

/-- Settles O24: each word is the encoding of its instruction, and each instruction ends as a move of its value. -/
theorem moveResult : Obligations.MoveResult := fun s _ _ imm5 x _ =>
  ⟨decodeWord_of_encode rfl, decodeWord_of_encode rfl, decodeWord_of_encode rfl, decodeWord_of_encode rfl, fun hx hy =>
    ⟨move_result hx (exec_mov hy) rfl, move_result hx rfl (s.immK_eq imm5),
      move_result hx (exec_movhi hx imm5) (s.movhiValue_eq imm5 x), move_result hx rfl (one_shiftLeft_eq imm5.toNat)⟩⟩

end Sys2Proof.Machine
end

section
/-! Arithmetic and compare (R171 to R180): the flags of a sum and of a difference said through the exact results (R170), the
values the other instructions write as numbers, and the ways the ten instructions end. -/

namespace Sys2Proof.Machine

/-! ## Signed overflow -/

/-- A wrapped result differs from the exact one where that does not fit a signed word. -/
theorem toInt_ne_iff_outside {r : Word} {n : Int} (wrapped : r = BitVec.ofInt 32 n) :
    r.toInt ≠ n ↔ 2 ^ 31 ≤ n ∨ n < -2 ^ 31 := by
  rw [wrapped, BitVec.toInt_ofInt, Int.bmod_def]
  split <;> omega

/-- The spec's V of a sum is signed overflow: operands of one sign, a result of the other (R170). -/
theorem sum_overflow_eq (x y : Word) :
    (x.msb == y.msb && (x + y).msb != x.msb) = decide ((x + y).toInt ≠ x.toInt + y.toInt) := by
  have wrapped : x + y = BitVec.ofInt 32 (x.toInt + y.toInt) := by
    rw [BitVec.ofInt_add, BitVec.ofInt_toInt, BitVec.ofInt_toInt]
  have overflow : x.saddOverflow y = (x.msb == y.msb && (x + y).msb != x.msb) := BitVec.saddOverflow_eq x y
  rw [← overflow, Bool.eq_iff_iff, decide_eq_true_iff, toInt_ne_iff_outside wrapped]
  simp [BitVec.saddOverflow]

/-- The spec's V of a difference is signed overflow: operands of two signs, a result without that of the first (R170). -/
theorem difference_overflow_eq (x y : Word) :
    (x.msb != y.msb && (x - y).msb != x.msb) = decide ((x - y).toInt ≠ x.toInt - y.toInt) := by
  have wrapped : x - y = BitVec.ofInt 32 (x.toInt - y.toInt) := by
    rw [Int.sub_eq_add_neg, BitVec.ofInt_add, BitVec.ofInt_neg, BitVec.ofInt_toInt, BitVec.ofInt_toInt, BitVec.sub_eq_add_neg]
  have overflow : x.ssubOverflow y = (x.msb != y.msb && (x - y).msb != x.msb) := by
    rw [BitVec.ssubOverflow_eq]
    cases x.msb <;> cases y.msb <;> simp
  rw [← overflow, Bool.eq_iff_iff, decide_eq_true_iff, toInt_ne_iff_outside wrapped]
  simp [BitVec.ssubOverflow]

/-! ## The flags -/

/-- A word is zero exactly where its number is. -/
theorem beq_zero_eq_decide (x : Word) : (x == 0#32) = decide (x.toNat = 0) := by
  rw [Bool.eq_iff_iff, word_zero_iff, decide_eq_true_iff]

/-- A difference is zero exactly where its operands are equal. -/
theorem sub_beq_zero_eq_decide (x y : Word) : (x - y == 0#32) = decide (x = y) := by
  rw [Bool.beq_eq_decide_eq, decide_eq_decide]
  exact sub_eq_zero

/-- The flags of ADD through the exact sum (R170, decision D6). -/
theorem sumFlags_of_addFlags {s t : State} {x y : Word} (h : t.status = addFlags x y s.status) : SumFlags s t x y := by
  rw [SumFlags, h, addFlags, sum_overflow_eq, BitVec.msb_eq_decide, beq_zero_eq_decide, BitVec.toNat_add]

/-- The flags of SUB through the exact difference (R170, decision D6). -/
theorem differenceFlags_of_subFlags {s t : State} {x y : Word} (h : t.status = subFlags x y s.status) :
    DifferenceFlags s t x y := by
  rw [DifferenceFlags, h, subFlags, difference_overflow_eq, sub_beq_zero_eq_decide, BitVec.msb_eq_toInt]

/-! ## The values -/

/-- Zero minus a word is its signed negation, wrapped (R177, decision D30). -/
theorem zero_sub_eq_ofInt_neg (x : Word) : 0#32 - x = BitVec.ofInt 32 (-x.toInt) := by
  rw [BitVec.zero_sub, BitVec.ofInt_neg, BitVec.ofInt_toInt]

/-- Negated where negative, a word is its absolute value, wrapped (R178, decision D30). -/
theorem absolute_eq (x : Word) : (if x.msb then 0#32 - x else x) = BitVec.ofNat 32 x.toInt.natAbs := by
  rw [BitVec.msb_eq_toInt, ← BitVec.ofInt_natCast 32 x.toInt.natAbs]
  obtain negative | nonneg := Int.lt_or_le x.toInt 0
  · rw [if_pos (decide_eq_true negative), zero_sub_eq_ofInt_neg, Int.ofNat_natAbs_of_nonpos (Int.le_of_lt negative)]
  · rw [if_neg (by simpa using nonneg), Int.natAbs_of_nonneg nonneg, BitVec.ofInt_toInt]

/-- The shift of MSTEP doubles the word. -/
theorem shiftLeft_one_eq (z : Word) : z <<< 1 = BitVec.ofNat 32 (2 * z.toNat) := by
  bv_omega

/-- One step of a multiplication: bit 31 of `%r0` decides whether `RA` is added (R179). -/
theorem mstepValue_eq (z x : Word) : (if z.msb then z <<< 1 + x else z <<< 1) =
    BitVec.ofNat 32 (2 * z.toNat + if 2147483648 ≤ z.toNat then x.toNat else 0) := by
  rw [BitVec.msb_eq_decide, shiftLeft_one_eq]
  by_cases top : 2147483648 ≤ z.toNat
  · rw [if_pos (decide_eq_true top), if_pos top, BitVec.ofNat_add, BitVec.ofNat_toNat, BitVec.setWidth_eq]
  · rw [if_neg (by simpa using top), if_neg top, Nat.add_zero]

/-- The low half-word is the remainder modulo 2^16 (R180). -/
theorem and_low_half_eq (x : Word) : x &&& 0x0000FFFF#32 = BitVec.ofNat 32 (x.toNat % 65536) := by
  apply BitVec.eq_of_toNat_eq
  have masked : (x &&& 0x0000FFFF#32).toNat = x.toNat % 65536 := Nat.and_two_pow_sub_one_eq_mod x.toNat 16
  rw [masked, BitVec.toNat_ofNat]
  omega

/-! ## How the instructions end -/

section Ends

variable {i : Instr} {s : State} {a b : RegNum} {x y v z : Word} {f : Status → Status}

/-- An instruction that ends by writing `v`, with flags, to a register of the file changes nothing else. -/
theorem flaggedWrite_result (readable : s.readReg a = .ok x) (writes : exec i s = outcome (s.retireReg a v f))
    (cwp : ∀ u, (f u).cwp = u.cwp) : ∃ t, exec i s = .next t ∧ WritesOnly s t a v ∧ t.status = f s.status := by
  obtain ⟨t, ht, status, only⟩ := State.retireReg_writesOnly readable v cwp
  exact ⟨t, by rw [writes, ht, outcome_ok], only, status⟩

/-- An instruction that ends with a sum and its flags. -/
theorem add_result (hx : s.readReg a = .ok x) (adds : exec i s = outcome (s.retireReg a (x + y) (addFlags x y))) :
    ∃ t, exec i s = .next t ∧ WritesOnly s t a (x + y) ∧ SumFlags s t x y :=
  have ⟨t, ht, only, status⟩ := flaggedWrite_result hx adds fun _ => rfl
  ⟨t, ht, only, sumFlags_of_addFlags status⟩

/-- An instruction that ends with a difference and its flags. -/
theorem subtract_result (hx : s.readReg a = .ok x)
    (subtracts : exec i s = outcome (s.retireReg a (x - y) (subFlags x y))) :
    ∃ t, exec i s = .next t ∧ WritesOnly s t a (x - y) ∧ DifferenceFlags s t x y :=
  have ⟨t, ht, only, status⟩ := flaggedWrite_result hx subtracts fun _ => rfl
  ⟨t, ht, only, differenceFlags_of_subFlags status⟩

/-- An instruction that ends with the flags of a difference and discards it. -/
theorem compare_result (compares : exec i s = .next (s.mapStatus (subFlags x y)).retire) :
    ∃ t, exec i s = .next t ∧ WritesNothing s t ∧ Retired s t ∧ t.skip = s.skip ∧ DifferenceFlags s t x y :=
  ⟨_, compares, ⟨rfl, ⟨rfl, rfl, rfl⟩, ⟨fun _ => rfl, rfl⟩, ⟨⟨rfl, rfl, rfl⟩, rfl⟩⟩, ⟨rfl, rfl, rfl, rfl, rfl⟩, rfl,
    differenceFlags_of_subFlags rfl⟩

/-! ## The ten instructions, their operands read -/

/-- ADD (R171). -/
theorem exec_add (hx : s.readReg a = .ok x) (hy : s.readReg b = .ok y) :
    exec (.add a b) s = outcome (s.retireReg a (x + y) (addFlags x y)) := by
  simp only [exec, execAdd, hx, hy, bind_ok]

/-- ADDI (R172). -/
theorem exec_addi (hx : s.readReg a = .ok x) (imm5 : BitVec 5) : exec (.addi a imm5) s =
    outcome (s.retireReg a (x + BitVec.ofNat 32 (s.immNat imm5)) (addFlags x (BitVec.ofNat 32 (s.immNat imm5)))) := by
  simp only [exec, execAddi, hx, bind_ok, State.immK_eq]

/-- SUB (R173). -/
theorem exec_sub (hx : s.readReg a = .ok x) (hy : s.readReg b = .ok y) :
    exec (.sub a b) s = outcome (s.retireReg a (x - y) (subFlags x y)) := by
  simp only [exec, execSub, hx, hy, bind_ok]

/-- SUBI (R174). -/
theorem exec_subi (hx : s.readReg a = .ok x) (imm5 : BitVec 5) : exec (.subi a imm5) s =
    outcome (s.retireReg a (x - BitVec.ofNat 32 (s.immNat imm5)) (subFlags x (BitVec.ofNat 32 (s.immNat imm5)))) := by
  simp only [exec, execSubi, hx, bind_ok, State.immK_eq]

/-- CMP (R175). -/
theorem exec_cmp (hx : s.readReg a = .ok x) (hy : s.readReg b = .ok y) :
    exec (.cmp a b) s = .next (s.mapStatus (subFlags x y)).retire := by
  simp only [exec, execCmp, hx, hy, bind_ok, pure_ok, outcome_ok]

/-- CMPI (R176). -/
theorem exec_cmpi (hx : s.readReg a = .ok x) (imm5 : BitVec 5) :
    exec (.cmpi a imm5) s = .next (s.mapStatus (subFlags x (BitVec.ofNat 32 (s.immNat imm5)))).retire := by
  simp only [exec, execCmpi, hx, bind_ok, pure_ok, outcome_ok, State.immK_eq]

/-- NEG (R177). -/
theorem exec_neg (hx : s.readReg a = .ok x) :
    exec (.neg a) s = outcome (s.retireReg a (BitVec.ofInt 32 (-x.toInt)) keepFlags) := by
  simp only [exec, execNeg, hx, bind_ok, zero_sub_eq_ofInt_neg]

/-- ABS (R178). -/
theorem exec_abs (hx : s.readReg a = .ok x) :
    exec (.abs a) s = outcome (s.retireReg a (BitVec.ofNat 32 x.toInt.natAbs) keepFlags) := by
  simp only [exec, execAbs, hx, bind_ok, absolute_eq]

/-- MSTEP, `%r0` read first (R179). -/
theorem exec_mstep (hz : s.readReg 0#5 = .ok z) (hx : s.readReg a = .ok x) : exec (.mstep a) s =
    outcome (s.retireReg 0#5 (BitVec.ofNat 32 (2 * z.toNat + if 2147483648 ≤ z.toNat then x.toNat else 0)) keepFlags) := by
  simp only [exec, execMstep, regZero, hz, hx, bind_ok, mstepValue_eq]

/-- MUL, `%r0` read first (R180). -/
theorem exec_mul (hz : s.readReg 0#5 = .ok z) (hx : s.readReg a = .ok x) : exec (.mul a) s =
    outcome (s.retireReg 0#5 (BitVec.ofNat 32 (z.toNat % 65536 * (x.toNat % 65536))) keepFlags) := by
  simp only [exec, execMul, regZero, hz, hx, bind_ok, and_low_half_eq, ← BitVec.ofNat_mul]

end Ends

/-! ## The statements -/

/-- Settles O15: both instructions end with a sum and its flags. -/
theorem addResult : Obligations.AddResult := fun _ _ _ imm5 _ hx =>
  ⟨fun _ hy => add_result hx (exec_add hx hy), add_result hx (exec_addi hx imm5)⟩

/-- Settles O16: both instructions end with a difference and its flags. -/
theorem subtractResult : Obligations.SubtractResult := fun _ _ _ imm5 _ hx =>
  ⟨fun _ hy => subtract_result hx (exec_sub hx hy), subtract_result hx (exec_subi hx imm5)⟩

/-- Settles O17: both instructions end with the flags of a difference alone. -/
theorem compareResult : Obligations.CompareResult := fun _ _ _ imm5 _ hx =>
  ⟨fun _ hy => compare_result (exec_cmp hx hy), compare_result (exec_cmpi hx imm5)⟩

/-- Settles O18: both instructions end with a write that keeps the flags. -/
theorem negateAndAbsoluteResult : Obligations.NegateAndAbsoluteResult := fun _ _ _ hx =>
  ⟨flaggedWrite_result hx (exec_neg hx) fun _ => rfl, flaggedWrite_result hx (exec_abs hx) fun _ => rfl⟩

/-- Settles O19: each word is the encoding of its instruction, and each instruction ends as a move of its value to `%r0`. -/
theorem multiplyResult : Obligations.MultiplyResult := fun _ _ _ _ =>
  ⟨decodeWord_of_encode rfl, decodeWord_of_encode rfl, fun hz hx =>
    ⟨move_result hz (exec_mstep hz hx) rfl, move_result hz (exec_mul hz hx) rfl⟩⟩

end Sys2Proof.Machine
end

section
/-! Shift, rotate, extend, swap and complement (R190 to R198, R207 to R209): the results of the word operations as numbers, and
the one way the eleven instructions without flags end. -/

namespace Sys2Proof.Machine

/-! ## Shifts -/

/-- The shift count is the number of the low five bits (R191). -/
theorem shiftCount_eq (y : Word) : shiftCount y = y.toNat % 32 := rfl

/-- A left shift multiplies, modulo 2^32 (R191, R192). -/
theorem shiftLeft_eq_ofNat (x : Word) (n : Nat) : x <<< n = BitVec.ofNat 32 (x.toNat * 2 ^ n) := by
  apply BitVec.eq_of_toNat_eq
  rw [BitVec.toNat_shiftLeft, Nat.shiftLeft_eq, BitVec.toNat_ofNat]

/-- A right shift with zeros divides the unsigned value (R193, R194). -/
theorem ushiftRight_eq_ofNat (x : Word) (n : Nat) : x >>> n = BitVec.ofNat 32 (x.toNat / 2 ^ n) := by
  rw [← Nat.shiftRight_eq_div_pow, ← BitVec.toNat_ushiftRight, BitVec.ofNat_toNat, BitVec.setWidth_eq]

/-- A right shift with the sign divides the signed value, rounding down (R195, R196). -/
theorem sshiftRight_eq_ofInt (x : Word) (n : Nat) : x.sshiftRight n = BitVec.ofInt 32 (x.toInt / 2 ^ n) := by
  rw [BitVec.sshiftRight, Int.shiftRight_eq_div_pow, Int.natCast_pow]
  rfl

/-! ## Rotates -/

/-- `C : RA` rotated left: the word is doubled, the carry enters at bit 0 (R197). -/
theorem rotateLeft_eq (x : Word) (c : Bool) :
    x.extractLsb' 0 31 ++ BitVec.ofBool c = BitVec.ofNat 32 (2 * x.toNat + c.toNat) := by
  have low : (x.extractLsb' 0 31).toNat = x.toNat % 2147483648 := rfl
  apply BitVec.eq_of_toNat_eq
  rw [toNat_append_eq_mul_add, low, BitVec.toNat_ofBool, BitVec.toNat_ofNat]
  have := c.toNat_le
  omega

/-- `C : RA` rotated right: the word is halved, the carry enters at bit 31 (R198). -/
theorem rotateRight_eq (x : Word) (c : Bool) :
    BitVec.ofBool c ++ x.extractLsb' 1 31 = BitVec.ofNat 32 (2147483648 * c.toNat + x.toNat / 2) := by
  have high : (x.extractLsb' 1 31).toNat = x.toNat / 2 := by
    rw [extractLsb'_eq_ofNat, BitVec.toNat_ofNat]
    omega
  rw [append_eq_ofNat, high, BitVec.toNat_ofBool, Nat.mul_comm, show 2 ^ 31 = 2147483648 from rfl]

/-! ## Extensions, exchange and complement -/

/-- The sign-extended low bits are the remainder of balanced division (R207, R208). -/
theorem signExtend_low_eq (x : Word) (w : Nat) :
    (x.extractLsb' 0 w).signExtend 32 = BitVec.ofInt 32 (Int.bmod x.toNat (2 ^ w : Nat)) := by
  rw [BitVec.signExtend, extractLsb'_eq_ofNat, Nat.pow_zero, Nat.div_one, BitVec.toInt_ofNat']

/-- The high half-word is the quotient by 2^16 (R6). -/
theorem halfLane_one_toNat (x : Word) : (halfLane 1 x).toNat = x.toNat / 65536 := by
  have quotient : halfLane 1 x = BitVec.ofNat 16 (x.toNat / 65536) := extractLsb'_eq_ofNat x 16 16
  rw [quotient, BitVec.toNat_ofNat]
  omega

/-- The half-words exchanged (R209). -/
theorem swapValue_eq (x : Word) :
    halfLane 0 x ++ halfLane 1 x = BitVec.ofNat 32 (x.toNat % 65536 * 65536 + x.toNat / 65536) := by
  rw [append_eq_ofNat, halfLane_zero_toNat, halfLane_one_toNat, show 2 ^ 16 = 65536 from rfl]

/-- Every bit inverted (R190). -/
theorem not_eq_ofNat (x : Word) : ~~~x = BitVec.ofNat 32 (4294967295 - x.toNat) := by
  have complement : (~~~x).toNat = 4294967295 - x.toNat := BitVec.toNat_not
  rw [← complement, BitVec.ofNat_toNat, BitVec.setWidth_eq]

/-! ## How the instructions end -/

section Ends

variable {i : Instr} {s : State} {a b : RegNum} {x y w : Word}

/-- An instruction that replaces a register by a function of it, without flags. -/
theorem unary_result (hx : s.readReg a = .ok x) {f : Word → Word} (value : f x = w)
    (runs : exec i s = outcome (s.readReg a >>= fun u => s.retireReg a (f u) keepFlags)) :
    ∃ t, exec i s = .next t ∧ t.status = s.status ∧ WritesOnly s t a w :=
  move_result hx (by rw [runs, hx, bind_ok]) value

/-- An instruction that replaces a register by a function of it and of a second one, without flags. -/
theorem binary_result (hx : s.readReg a = .ok x) (hy : s.readReg b = .ok y) {f : Word → Word → Word} (value : f x y = w)
    (runs : exec i s =
      outcome (s.readReg a >>= fun u => s.readReg b >>= fun v => s.retireReg a (f u v) keepFlags)) :
    ∃ t, exec i s = .next t ∧ t.status = s.status ∧ WritesOnly s t a w :=
  move_result hx (by rw [runs, hx, bind_ok, hy, bind_ok]) value

/-- RLC, its register read: the carry becomes the old bit 31 (R197). -/
theorem exec_rlc (hx : s.readReg a = .ok x) : exec (.rlc a) s =
    outcome (s.retireReg a (BitVec.ofNat 32 (2 * x.toNat + s.status.c.toNat))
      (carryFlag (decide (2147483648 ≤ x.toNat)))) := by
  simp only [exec, execRlc, hx, bind_ok, rotateLeft_eq, BitVec.msb_eq_decide, Nat.reduceSub, Nat.reducePow]

/-- RRC, its register read: the carry becomes the old bit 0 (R198). -/
theorem exec_rrc (hx : s.readReg a = .ok x) : exec (.rrc a) s =
    outcome (s.retireReg a (BitVec.ofNat 32 (2147483648 * s.status.c.toNat + x.toNat / 2))
      (carryFlag (decide (x.toNat % 2 = 1)))) := by
  simp only [exec, execRrc, hx, bind_ok, rotateRight_eq, getLsbD_eq_decide, Nat.pow_zero, Nat.div_one]

end Ends

/-! ## The statements -/

/-- Settles O21: each instruction replaces `%rA` by its shift by the count in `%rB`. -/
theorem shiftByRegisterResult : Obligations.ShiftByRegisterResult := fun _ _ _ _ _ =>
  ⟨decodeWord_of_encode rfl, decodeWord_of_encode rfl, decodeWord_of_encode rfl, fun hx hy =>
    ⟨binary_result hx hy (f := fun u v => u <<< shiftCount v) (by simp only [shiftCount_eq, shiftLeft_eq_ofNat]) rfl,
      binary_result hx hy (f := fun u v => u >>> shiftCount v) (by simp only [shiftCount_eq, ushiftRight_eq_ofNat]) rfl,
      binary_result hx hy (f := fun u v => u.sshiftRight (shiftCount v)) (by simp only [shiftCount_eq, sshiftRight_eq_ofInt]) rfl⟩⟩

/-- Settles O22: each instruction replaces `%rA` by its shift by the immediate. -/
theorem shiftByImmediateResult : Obligations.ShiftByImmediateResult := fun _ _ imm5 x =>
  ⟨decodeWord_of_encode rfl, decodeWord_of_encode rfl, decodeWord_of_encode rfl, fun hx =>
    ⟨unary_result hx (f := (· <<< imm5.toNat)) (shiftLeft_eq_ofNat x imm5.toNat) rfl,
      unary_result hx (f := (· >>> imm5.toNat)) (ushiftRight_eq_ofNat x imm5.toNat) rfl,
      unary_result hx (f := (·.sshiftRight imm5.toNat)) (sshiftRight_eq_ofInt x imm5.toNat) rfl⟩⟩

/-- Settles O23: both instructions end with the rotated word and the bit rotated out as the carry. -/
theorem rotateThroughCarryResult : Obligations.RotateThroughCarryResult := fun _ _ _ hx =>
  ⟨flaggedWrite_result hx (exec_rlc hx) fun _ => rfl, flaggedWrite_result hx (exec_rrc hx) fun _ => rfl⟩

/-- Settles O28: each word is the encoding of its instruction, and each instruction replaces `%rA` by its value. -/
theorem extendSwapAndComplementResult : Obligations.ExtendSwapAndComplementResult := fun _ _ x =>
  ⟨decodeWord_of_encode rfl, decodeWord_of_encode rfl, decodeWord_of_encode rfl, decodeWord_of_encode rfl, fun hx =>
    ⟨unary_result hx (f := fun u => (byteLane 0 u).signExtend 32) (signExtend_low_eq x 8) rfl,
      unary_result hx (f := fun u => (halfLane 0 u).signExtend 32) (signExtend_low_eq x 16) rfl,
      unary_result hx (f := fun u => halfLane 0 u ++ halfLane 1 u) (swapValue_eq x) rfl,
      unary_result hx (f := (~~~·)) (not_eq_ofNat x) rfl⟩⟩

end Sys2Proof.Machine
end

section
/-! Extract and fill (R203 to R206, R210, R211): the values the six instructions write as numbers, and the must-be-zero bit of
EXT16S. -/

namespace Sys2Proof

/-- A word of EXT16S with bit 5 set is no instruction (R95, R206). -/
theorem decodeWord_ext16s_bit5 (imm1u : BitVec 1) (a : RegNum) :
    decodeWord (0b011101001#9 ++ imm1u ++ 1#1 ++ a) = .error .mustBeZero := by
  simp (disch := decide) [-Nat.reduceAdd, decodeWord, decodeOp6, decodeOp3u, field, BitVec.extractLsb'_append_eq_of_le,
    BitVec.extractLsb'_append_eq_of_add_le]

end Sys2Proof

namespace Sys2Proof.Machine

/-! ## The values -/

/-- A lane of a word, zero-extended, is the quotient by its weight, cut to the lane's width (R203 to R206). -/
theorem zeroExtend_lane_eq (x : Word) (n w : Nat) :
    (x.extractLsb' (w * n) w).zeroExtend 32 = BitVec.ofNat 32 (x.toNat / (2 ^ w) ^ n % 2 ^ w) := by
  apply BitVec.eq_of_toNat_eq
  rw [extractLsb'_eq_ofNat, Nat.pow_mul, BitVec.toNat_setWidth, BitVec.toNat_ofNat, BitVec.toNat_ofNat]

/-- The byte lane an address selects is the address modulo 4 (R63). -/
theorem laneOf_toNat (y : Word) : (laneOf y).toNat = y.toNat % 4 := rfl

/-- The half-word lane an address selects is bit 1 of the address (R63). -/
theorem halfLaneOf_toNat (y : Word) : (halfLaneOf y).toNat = y.toNat / 2 % 2 := by
  simp [halfLaneOf, Nat.shiftRight_eq_div_pow]

/-- The low byte in each of the four bytes (R210). -/
theorem fillBytes_eq (x : Word) : byteLane 0 x ++ byteLane 0 x ++ byteLane 0 x ++ byteLane 0 x =
    BitVec.ofNat 32 (x.toNat % 256 * 16843009) := by
  have low : (byteLane 0 x).toNat = x.toNat % 256 := rfl
  apply BitVec.eq_of_toNat_eq
  simp only [toNat_append_eq_mul_add, low, BitVec.toNat_ofNat]
  omega

/-- The low half-word in both half-words (R211). -/
theorem fillHalves_eq (x : Word) : halfLane 0 x ++ halfLane 0 x = BitVec.ofNat 32 (x.toNat % 65536 * 65537) := by
  apply BitVec.eq_of_toNat_eq
  simp only [toNat_append_eq_mul_add, halfLane_zero_toNat, BitVec.toNat_ofNat]
  omega

/-! ## How the instructions end -/

/-- EXT8D, its registers read: the byte lane that the second one selects (R203). -/
theorem ext8d_result {s : State} {a b : RegNum} {x y : Word} (hx : s.readReg a = .ok x) (hy : s.readReg b = .ok y) :
    ∃ t, exec (.ext8d a b) s = .next t ∧ t.status = s.status ∧
      WritesOnly s t a (BitVec.ofNat 32 (x.toNat / 256 ^ (y.toNat % 4) % 256)) := by
  rw [← laneOf_toNat]
  exact binary_result hx hy (f := fun u v => (byteLane (laneOf v) u).zeroExtend 32) (zeroExtend_lane_eq x _ 8) rfl

/-- EXT16D, its registers read: the half-word lane that the second one selects (R205). -/
theorem ext16d_result {s : State} {a b : RegNum} {x y : Word} (hx : s.readReg a = .ok x) (hy : s.readReg b = .ok y) :
    ∃ t, exec (.ext16d a b) s = .next t ∧ t.status = s.status ∧
      WritesOnly s t a (BitVec.ofNat 32 (x.toNat / 65536 ^ (y.toNat / 2 % 2) % 65536)) := by
  rw [← halfLaneOf_toNat]
  exact binary_result hx hy (f := fun u v => (halfLane (halfLaneOf v) u).zeroExtend 32) (zeroExtend_lane_eq x _ 16) rfl

/-- FILL8, its register read: the result goes to `%r0` (R210). -/
theorem exec_fill8 {s : State} {a : RegNum} {x : Word} (hx : s.readReg a = .ok x) : exec (.fill8 a) s =
    outcome (s.retireReg 0#5 (BitVec.ofNat 32 (x.toNat % 256 * 16843009)) keepFlags) := by
  simp only [exec, execFill8, regZero, hx, bind_ok, fillBytes_eq]

/-- FILL16, its register read: the result goes to `%r0` (R211). -/
theorem exec_fill16 {s : State} {a : RegNum} {x : Word} (hx : s.readReg a = .ok x) : exec (.fill16 a) s =
    outcome (s.retireReg 0#5 (BitVec.ofNat 32 (x.toNat % 65536 * 65537)) keepFlags) := by
  simp only [exec, execFill16, regZero, hx, bind_ok, fillHalves_eq]

/-! ## The statements -/

/-- Settles O27: each word is the encoding of its instruction, and each instruction replaces `%rA` by a lane of it. -/
theorem extractResult : Obligations.ExtractResult := by
  intro s a b imm2u imm1u x y
  refine ⟨decodeWord_of_encode rfl, decodeWord_of_encode rfl, decodeWord_of_encode rfl, decodeWord_of_encode rfl,
    fun i => ?_, fun hx hy => ⟨ext8d_result hx hy, ?_, ext16d_result hx hy, ?_⟩⟩
  · rw [decodeWord_ext16s_bit5]
    nofun
  · exact unary_result hx (f := fun u => (byteLane imm2u u).zeroExtend 32) (zeroExtend_lane_eq x _ 8) rfl
  · exact unary_result hx (f := fun u => (halfLane imm1u u).zeroExtend 32) (zeroExtend_lane_eq x _ 16) rfl

/-- Settles O29: each word is the encoding of its instruction, and each instruction ends as a move of its value to `%r0`. -/
theorem fillResult : Obligations.FillResult := fun _ _ _ _ =>
  ⟨decodeWord_of_encode rfl, decodeWord_of_encode rfl, fun hz hx =>
    ⟨move_result hz (exec_fill8 hx) rfl, move_result hz (exec_fill16 hx) rfl⟩⟩

end Sys2Proof.Machine
end

section
/-! Stores to memory (R217 to R228): what a store leaves, and the nine forms. Then the byte idioms (R229). -/

namespace Sys2Proof.Machine

/-! ## A store to memory -/

/-- A store to a word of memory writes the lanes there, and nothing else (R61, R67). -/
theorem store_memory {i : Instr} {s : State} {x v : Word} {first count : Nat} (store : Stores i s x first count v)
    (h : s.Writable (s.wordAddr x)) : ∃ t, exec i s = .next t ∧ StoresLanes s t (s.wordAddr x) first count v := by
  obtain ⟨vs, ⟨inWord, rfl, lane⟩, hexec⟩ := store
  have port : s.writePort (s.wordAddr x + first) = .ok .memory :=
    State.writePort_memory.2 ((s.kindAt_lane x inWord).trans h)
  refine ⟨_, hexec.trans (outcome_eq_next.2 (bind_eq_ok.2 ⟨_, State.storeBytes_ok.2 ⟨_, port, rfl⟩, rfl⟩)), ?_⟩
  refine ⟨fun k lower upper => ?_, fun k lower upper => ?_, fun a ha => ⟨?_, ?_⟩, rfl, rfl, ⟨rfl, rfl, rfl⟩,
    ⟨⟨rfl, rfl, rfl⟩, rfl⟩, ⟨rfl, rfl, rfl, rfl, rfl⟩, rfl⟩
  · obtain ⟨m, rfl⟩ := Nat.exists_eq_add_of_le lower
    have inside : m < vs.length := by omega
    rw [← Nat.add_assoc, ← Option.some.inj ((List.getElem?_eq_getElem inside).symm.trans (lane m inside))]
    exact Memory.read_writeAll_inside vs s.mem _ m inside
  · obtain ⟨m, rfl⟩ := Nat.exists_eq_add_of_le lower
    rw [← Nat.add_assoc]
    exact logStores_inside _ _ _ _ _ (by omega)
  · exact Memory.read_writeAll_outside _ _ _ _ ha
  · exact logStores_outside _ _ _ _ _ ha

/-- Settles O34: each word is the encoding of its instruction, and each form stores the four lanes at its address. -/
theorem storeWordResult : Obligations.StoreWordResult := by
  intro s a b p imm5 imm8 v base w
  refine ⟨decodeWord_of_encode rfl, decodeWord_of_encode rfl, decodeWord_of_encode rfl, fun hv hw => ⟨?_, ?_, ?_⟩⟩
  · rintro hb rfl
    exact store_memory (stores_st hb hv) hw
  · rintro hp rfl
    exact store_memory (stores_stp hp hv imm5) hw
  · rintro hsp rfl
    exact store_memory (stores_sts hsp hv imm8) hw

/-- Settles O35: each word is the encoding of its instruction, and each form stores its one lane at its address. -/
theorem storeByteResult : Obligations.StoreByteResult := by
  intro s a imm2u imm10 v base w
  refine ⟨decodeWord_of_encode rfl, decodeWord_of_encode rfl, decodeWord_of_encode rfl, fun hz => ⟨?_, ?_⟩⟩
  · rintro hb rfl
    exact ⟨store_memory (stores_st8d hb hz), store_memory (stores_st8s hb hz imm2u)⟩
  · rintro hsp rfl
    exact store_memory (stores_sts8s hsp hz imm10)

/-- Settles O36: each word is the encoding of its instruction, and each form stores its two lanes at its address. -/
theorem storeHalfResult : Obligations.StoreHalfResult := by
  intro s a imm1u imm9 v base w
  refine ⟨decodeWord_of_encode rfl, decodeWord_of_encode rfl, decodeWord_of_encode rfl, fun hz => ⟨?_, ?_⟩⟩
  · rintro hb rfl
    exact ⟨store_memory (stores_st16d hb hz), store_memory (stores_st16s hb hz imm1u)⟩
  · rintro hsp rfl
    exact store_memory (stores_sts16s hsp hz imm9)

/-! ## Registers and addresses across instructions -/

/-- A write of one visible register leaves what the others read. -/
theorem WritesOnly.readReg_other {s t : State} {i k : RegNum} {v : Word} (writes : WritesOnly s t i v)
    (status : t.status = s.status) (other : k ≠ i) : t.readReg k = s.readReg k :=
  State.readReg_congr_at (State.physIndex_congr writes.file.length (by rw [status]) k) fun _ hk =>
    writes.file.others _ fun hi => other (State.physIndex_inj hk hi)

/-- A register that could be read can be read after a write of any visible register. -/
theorem WritesOnly.readable {s t : State} {i k : RegNum} {v x : Word} (writes : WritesOnly s t i v)
    (status : t.status = s.status) (readable : s.readReg k = .ok x) : ∃ y, t.readReg k = .ok y := by
  by_cases same : k = i
  · exact ⟨v, same ▸ writes.value⟩
  · exact ⟨x, (writes.readReg_other status same).trans readable⟩

/-- A store leaves every register. -/
theorem StoresLanes.readReg {s t : State} {w first count : Nat} {v : Word} (stores : StoresLanes s t w first count v)
    (k : RegNum) : t.readReg k = s.readReg k :=
  State.readReg_congr (State.physIndex_congr (by rw [stores.file]) (by rw [stores.status]) k) stores.file

/-- After an instruction other than PFX an address has no offset from K (R98). -/
theorem Retired.add_offsetK {s t : State} (retired : Retired s t) (x : Word) : x + t.offsetK = x := by
  obtain ⟨-, -, -, unprefixed⟩ := prefixedOperandValues t 0#5
  obtain ⟨-, noOffset, -⟩ := unprefixed retired.k
  rw [noOffset, BitVec.add_zero]

/-- The bus address of a word depends on the platform alone. -/
theorem State.wordAddr_congr {s t : State} (platform : t.platform = s.platform) (x : Word) : t.wordAddr x = s.wordAddr x := by
  rw [State.wordAddr_eq, State.wordAddr_eq, platform]

/-- What answers at an address depends on the platform alone. -/
theorem State.kindAt_congr {s t : State} (platform : t.platform = s.platform) (a : Nat) : t.kindAt a = s.kindAt a := by
  rw [State.kindAt, State.kindAt, platform]

/-! ## Lanes of a word -/

/-- The byte lane of four bytes read as a word is the byte at that lane's address (R63). -/
theorem wordFrom_lane (f : Nat → Byte) (a : Nat) {n : Nat} (hn : n < 4) :
    (wordFrom f a).toNat / 256 ^ n % 256 = (f (a + n)).toNat := by
  have h0 := (f a).isLt
  have h1 := (f (a + 1)).isLt
  have h2 := (f (a + 2)).isLt
  have h3 := (f (a + 3)).isLt
  rw [wordFrom_toNat]
  interval_cases n
  · rw [Nat.add_zero a]
    omega
  all_goals omega

/-- Every byte lane of a filled word is the byte filled in (R210). -/
theorem fillBytes_lane (v : Word) {n : Nat} (hn : n < 4) :
    BitVec.ofNat 8 ((BitVec.ofNat 32 (v.toNat % 256 * 16843009)).toNat / 256 ^ n) = BitVec.ofNat 8 v.toNat := by
  have filled : BitVec.ofNat 32 (v.toNat % 256 * 16843009) = wordFrom (fun _ => byteLane 0 v) 0 := (fillBytes_eq v).symm
  apply BitVec.eq_of_toNat_eq
  rw [filled, BitVec.toNat_ofNat]
  exact wordFrom_lane _ 0 hn

/-! ## The byte idioms -/

/-- Settles O37: FILL8 puts the byte in every lane of `%r0`, ST8D stores the lane of the pointer, LD reads the word and EXT8D
takes that lane of it. -/
theorem byteStoreThenByteLoad : Obligations.ByteStoreThenByteLoad := by
  intro s a p c v addr z x hv hp hz hx notZero notPtr writable
  have lane : addr.toNat % 4 < 4 := Nat.mod_lt _ (by decide)
  obtain ⟨t1, ht1, status1, filled⟩ := move_result hz (exec_fill8 hv) rfl
  have platform1 := filled.outside.inputs.platform
  have hp1 : t1.readReg p = .ok addr := (filled.readReg_other status1 notZero).trans hp
  obtain ⟨x1, hx1⟩ := filled.readable status1 hx
  have addr1 : t1.wordAddr (addr + t1.offsetK) = s.wordAddr addr := by
    rw [filled.retired.add_offsetK, State.wordAddr_congr platform1]
  obtain ⟨t2, ht2, stored⟩ := store_memory (stores_st8d hp1 filled.value)
    (by rw [addr1]; exact (State.kindAt_congr platform1 _).trans writable)
  rw [addr1] at stored
  have byte : t2.byteAt (s.wordAddr addr + addr.toNat % 4) = BitVec.ofNat 8 v.toNat := by
    rw [stored.stored _ (Nat.le_refl _) (Nat.lt_succ_self _), fillBytes_lane v lane]
  have platform2 : t2.platform = s.platform := stored.outside.inputs.platform.trans platform1
  have hp2 : t2.readReg p = .ok addr := (stored.readReg p).trans hp1
  have addr2 : t2.wordAddr (addr + t2.offsetK) = s.wordAddr addr := by
    rw [stored.retired.add_offsetK, State.wordAddr_congr platform2]
  obtain ⟨t3, ht3, status3, loaded⟩ := load_memory (exec_ld hp2 c) ((stored.readReg c).trans hx1)
    (.inl (by rw [addr2]; exact (State.kindAt_congr platform2 _).trans writable))
  rw [addr2] at loaded
  have hp3 : t3.readReg p = .ok addr := (loaded.readReg_other status3 notPtr.symm).trans hp2
  obtain ⟨t4, ht4, -, extracted⟩ := ext8d_result loaded.value hp3
  refine ⟨t1, t2, t3, t4, ht1, ht2, byte, ht3, ht4, ?_⟩
  rw [extracted.value, State.wordAt, wordFrom_lane _ _ lane, byte]
  rfl

end Sys2Proof.Machine
end

section
/-! SAVE with a window underflow (R236, R252, R262), and SAVE followed by RESTORE (R235, R237). -/

namespace Sys2Proof.Machine

/-- A SAVE with an underflow due answers what the read of vector 1 answers, from the state with the frame of the new window
written to physical register `j` (R236, R262). -/
theorem exec_save_underflow {s : State} {imm8v : BitVec 8} {fp : Word} {j : Nat}
    (hfp : (s.moveWindow (-1#5)).readReg regFp = .ok fp) (due : s.status.cwp = s.loLimit ∧ s.accepts 1#6 = true)
    (hj : (s.moveWindow (-1#5)).physIndex regSp = some j) :
    exec (.save imm8v) s = outcome (State.exceptionEntry
      { s.moveWindow (-1#5) with rf := s.rf.set j (fp - imm8v.zeroExtend 32 * 4#32) } 1#6 s.nxt false) := by
  have inside := State.inside_of_readReg (by decide) hfp
  obtain ⟨k, hk, hlt, hu⟩ := State.writeReg_inside inside regSp (fp - imm8v.zeroExtend 32 * 4#32)
  rw [hj] at hk
  cases hk
  exact (exec_save hfp hu).trans (if_pos due)

/-- Settles O52: the entry is made from the opened window, without moving it again. -/
theorem saveUnderflows : Obligations.SaveUnderflows := by
  intro s imm8v fp j hfp atLimit enabled below hj
  have inside : (s.moveWindow (-1#5)).status.cwp.toNat < s.nwin := State.inside_of_readReg (by decide) hfp
  rw [exec_save_underflow hfp ⟨atLimit, State.accepts_iff.2 ⟨enabled, below⟩⟩ hj, ← frameSize_eq, ← s.moveWindow_down_cwp]
  obtain ⟨enters, stops⟩ := State.exceptionEntry_entered (s := s)
    (u := { s.moveWindow (-1#5) with rf := s.rf.set j (fp - imm8v.zeroExtend 32 * 4#32) }) (n := 1#6) (dec := false)
    ⟨rfl, rfl, rfl⟩ ⟨fun _ => rfl, rfl⟩ ⟨⟨rfl, rfl, rfl⟩, rfl⟩ nofun (by simpa [State.nwin, Status.entered] using inside) s.nxt
  refine ⟨fun h hh => ?_, fun stop hstop => congrArg outcome (stops stop hstop)⟩
  obtain ⟨t, ht, entered⟩ := enters h hh
  exact ⟨t, congrArg outcome ht, entered⟩

/-- Settles O54: SAVE writes `%sp` of the window below, which is no register of the caller's window, and RESTORE moves back. -/
theorem saveThenRestoreKeepsCaller : Obligations.SaveThenRestoreKeepsCaller := by
  intro s imm8v file notZero inside noUnderflow noOverflow
  have cwp : s.status.cwp.toNat = (s.moveWindow (-1#5)).status.cwp.toNat + 1 := by
    rw [State.moveWindow_down_cwp]
    bv_omega
  have below : (s.moveWindow (-1#5)).status.cwp.toNat < (s.moveWindow (-1#5)).nwin := by
    have nwin : (s.moveWindow (-1#5)).nwin = s.nwin := rfl
    omega
  obtain ⟨fp, hfp⟩ := State.readReg_inside below 30#5
  obtain ⟨-, saves⟩ := saveOpensWindow s imm8v fp hfp
  obtain ⟨t, ht, status, -, -, saved, control, memory, outside, retired, -⟩ := saves noUnderflow
  obtain ⟨restores, -⟩ := restoreResult t
  rw [status, control.hiLimit] at restores
  obtain ⟨u, hu, statusBack, writes, retiredBack, -⟩ := restores noOverflow
  have back : u.status = s.status := by rw [statusBack, BitVec.sub_add_cancel]
  refine ⟨t, u, ht, hu, back, fun i => ?_, ?_, ?_, ?_, ?_⟩
  · refine State.readReg_congr_at (State.physIndex_congr (writes.file ▸ saved.length) (by rw [back]) i) fun j hj => ?_
    rw [writes.file]
    exact saved.others j (State.physIndex_ne_above (by decide) (by decide) cwp below hj)
  · exact ⟨writes.control.istatus.trans control.istatus, writes.control.loLimit.trans control.loLimit,
      writes.control.hiLimit.trans control.hiLimit⟩
  · exact ⟨fun a => (writes.memory.bytes a).trans (memory.bytes a), writes.memory.stores.trans memory.stores⟩
  · obtain ⟨inputs, bus⟩ := outside
    obtain ⟨inputsBack, busBack⟩ := writes.outside
    exact ⟨⟨inputsBack.platform.trans inputs.platform, inputsBack.env.trans inputs.env, inputsBack.now.trans inputs.now⟩,
      busBack.trans bus⟩
  · rw [retiredBack.pc, State.nxt, retired.btarget, retired.pc, Option.getD_none]

end Sys2Proof.Machine
end

section
/-! The entry of an external interrupt between instructions (R256, R262), and that a request which is not taken leaves no
trace (R251, R258). -/

namespace Sys2Proof.Machine

/-! ## When an interrupt is taken -/

/-- The hidden state is idle where nothing is pending (R52). -/
theorem State.idle_iff {s : State} :
    s.idle = true ↔ s.btarget = none ∧ s.skip = false ∧ s.pfx = false ∧ s.ctl0Hazard = false := by
  simp [State.idle, and_assoc]

/-- With an input at hand, an interrupt is taken where it is requested, recognised, enabled and below the threshold, and nothing
is pending (R251, R256). -/
theorem State.interruptTaken_of_input {s : State} {e : IrqInput} {rest : List IrqInput} (input : s.env = e :: rest)
    {n : BitVec 6} : s.interruptTaken = some n ↔
      n = e.irqNumber ∧ e.irq = true ∧ e.recognise = true ∧ (s.status.ie = true ∧ e.irqNumber.toNat < s.status.ipri.toNat) ∧
        s.btarget = none ∧ s.skip = false ∧ s.pfx = false ∧ s.ctl0Hazard = false := by
  rw [State.interruptTaken_eq_some, input, ← State.accepts_iff, ← State.idle_iff]
  constructor
  · rintro ⟨_, _, ⟨rfl, rfl⟩, idle, irq, recognise, accepts, number⟩
    exact ⟨number, irq, recognise, accepts, idle⟩
  · rintro ⟨number, irq, recognise, accepts, idle⟩
    exact ⟨e, rest, rfl, idle, irq, recognise, accepts, number⟩

/-! ## The entry -/

/-- A step that takes an interrupt is its entry, to return to the instruction not yet executed (R47 (a)). -/
theorem step_of_interrupt {s : State} {n : BitVec 6} (taken : s.interruptTaken = some n) :
    step s = outcome (s.dropInput.exceptionEntry n s.pc true) := by
  simp only [step, stepCore, taken]

/-- Consuming an input leaves what a word read answers. -/
theorem State.loadWord_dropInput (s : State) (x : Word) :
    s.dropInput.loadWord x = (s.loadWord x).map fun r => { value := r.value, after := r.after.dropInput } := by
  have port : s.dropInput.readPort (s.dropInput.wordAddr x) = s.readPort (s.wordAddr x) := rfl
  rw [State.loadWord, State.loadWord, port]
  cases s.readPort (s.wordAddr x) with
  | error stop => rfl
  | ok p => cases p <;> rfl

/-- An entry depends on the value read of the vector and on the bus after the read alone. -/
theorem Entered.of_vector {s t : State} {file : List Word} {saved : Status} {cwp : BitVec 5} {n : BitVec 6} {r h : Loaded}
    {ret : Word} (entered : Entered s t file saved cwp n r ret) (value : h.value = r.value)
    (bus : h.after.bus = r.after.bus) : Entered s t file saved cwp n h ret :=
  { entered with pc := value ▸ entered.pc, bus := bus ▸ entered.bus }

/-- Settles O9: the step is the entry from the state with the input consumed, which reads the vector as before. -/
theorem interruptIsEntered : Obligations.InterruptIsEntered := by
  intro s e rest input noTarget noSkip noPfx noHazard irq recognise enabled below
  have taken : s.interruptTaken = some e.irqNumber :=
    (State.interruptTaken_of_input input).2 ⟨rfl, irq, recognise, ⟨enabled, below⟩, noTarget, noSkip, noPfx, noHazard⟩
  have consumed : s.dropInput = { s with env := rest } := by rw [State.dropInput, input, List.tail_cons]
  rw [step_of_interrupt taken]
  refine ⟨fun atZero => ?_, fun notZero outside => ?_, fun notZero atMost _ => ?_⟩
  · rw [State.exceptionEntry_windowZero (s := s.dropInput) atZero, outcome_fault]
  · rw [State.exceptionEntry_outside (s := s.dropInput) (n := e.irqNumber) (dec := true) (fun _ => notZero) outside,
      outcome_fault]
  · obtain ⟨enters, stops⟩ := State.exceptionEntry_entered (s := s.dropInput) (n := e.irqNumber) (dec := true)
      ⟨rfl, rfl, rfl⟩ (SameMemory.refl _) (SameOutside.refl _) (fun _ => notZero)
      (State.below_inside (s := s) notZero atMost) s.pc
    have vector : s.dropInput.loadWord (s.dropInput.vectorAddr e.irqNumber) = _ :=
      s.loadWord_dropInput (s.vectorAddr e.irqNumber)
    refine ⟨fun h hh => ?_, fun stop hstop => ?_⟩
    · rw [hh] at vector
      obtain ⟨t, ht, entered⟩ := enters _ vector
      rw [consumed] at entered
      exact ⟨t, congrArg outcome ht, entered.of_vector rfl rfl⟩
    · rw [hstop] at vector
      exact congrArg outcome (stops stop vector)

/-! ## No interrupt -/

/-- Where no interrupt is taken, the step depends on the state with its input consumed alone. -/
theorem step_congr_of_quiet {s u : State} (quiet : s.interruptTaken = none) (quiet' : u.interruptTaken = none)
    (same : s.begin = u.begin) : step s = step u := by
  simp only [step, stepCore, quiet, quiet', same]

/-- A request that is withdrawn, not recognised, masked, or met with something pending is not taken (R251, R256, R258). -/
theorem State.interruptTaken_none {s : State} {e : IrqInput} {rest : List IrqInput} (input : s.env = e :: rest)
    (masked : e.irq = false ∨ e.recognise = false ∨ s.status.ie = false ∨ s.status.ipri.toNat ≤ e.irqNumber.toNat ∨
      s.btarget ≠ none ∨ s.skip = true ∨ s.pfx = true ∨ s.ctl0Hazard = true) : s.interruptTaken = none := by
  rw [Option.eq_none_iff_forall_ne_some]
  intro n taken
  obtain ⟨-, irq, recognise, ⟨enabled, below⟩, noTarget, noSkip, noPfx, noHazard⟩ :=
    (State.interruptTaken_of_input input).1 taken
  simp [irq, recognise, enabled, noTarget, noSkip, noPfx, noHazard, Nat.not_le.2 below] at masked

/-- Settles O10: a request that is not taken is consumed as its absence is. -/
theorem maskedRequestLeavesNoTrace : Obligations.MaskedRequestLeavesNoTrace := by
  intro s e rest
  have absent (rest : List IrqInput) :
      ({ s with env := { irq := false, irqNumber := 0#6, recognise := false } :: rest } : State).interruptTaken = none :=
    State.interruptTaken_none rfl (.inl rfl)
  refine ⟨fun masked => ?_, rfl, step_congr_of_quiet rfl (absent []) rfl⟩
  have quiet : ({ s with env := e :: rest } : State).interruptTaken = none := State.interruptTaken_none rfl masked
  exact ⟨quiet, step_congr_of_quiet quiet (absent rest) rfl⟩

end Sys2Proof.Machine
end
